-- ==== Sys2Proof/Word.lean ====
section
/-! DEFINITION. The words of the CE412's lines: bytes and two-byte values (00_scope.md, Numbers). -/

namespace Sys2Proof

/-- One byte of a frame. -/
abbrev Byte := BitVec 8

/-- A two-byte value: counts, grant numbers, service limits and the frame check. -/
abbrev Half := BitVec 16

end Sys2Proof
end

