-- ==== Sys2Proof/Syntax.lean ====
section
/-! DEFINITION. The commands of the block: one constructor for each row of opcode_table.json, that is one for each
whole, indivisible step of the part (95_what_each_step_holds.md).
A request row is the taking of the request frame that is the oldest in the trunk receive buffers (R126, R129). Its
arguments are that frame's payload bytes (Table 11-4), so the command carries no operand (log 1). -/

namespace Sys2Proof

/-- The two line ports. -/
inductive PortId where
  | trunk
  | field
  deriving DecidableEq, Repr

/-- A step of the part. -/
inductive Instr where
  /-- JOIN is taken (R65). -/
  | join
  /-- LEAVE is taken (R67). -/
  | leave
  /-- SET-MASK is taken (R69). -/
  | setMask
  /-- READ-AGENT is taken (R70). -/
  | readAgent
  /-- CLAIM is taken (R73). -/
  | claim
  /-- PEEK is taken (R75). -/
  | peek
  /-- DONE is taken (R76). -/
  | done
  /-- PUT-PROMOTION is taken (R53). -/
  | putPromotion
  /-- CLEAR-PROMOTION is taken (R55). -/
  | clearPromotion
  /-- PUT-SOURCE is taken (R8). -/
  | putSource
  /-- DROP-SOURCE is taken (R13). -/
  | dropSource
  /-- BLOCK is taken (R18). -/
  | block
  /-- UNBLOCK is taken (R19). -/
  | unblock
  /-- READ-SOURCE is taken (R20). -/
  | readSource
  /-- FORCE is taken (R38). -/
  | force
  /-- RELEASE is taken (R39). -/
  | release
  /-- PUT-NODE is taken (R109). -/
  | putNode
  /-- DROP-NODE is taken (R110). -/
  | dropNode
  /-- READ-NODE is taken (R111). -/
  | readNode
  /-- SET-CONTACT is taken (R120). -/
  | setContact
  /-- SET-TIMING is taken (R135). -/
  | setTiming
  /-- READ-PART is taken (R137). -/
  | readPart
  /-- RESUME is taken (R143). -/
  | resume
  /-- RESTART is taken (R145). -/
  | restart
  /-- A request frame with an undefined code or LEN 0 is taken (R131). -/
  | undefinedRequestCode
  /-- A trunk frame that is neither forwarded nor a request is dropped (R128). -/
  | foreignFrame
  /-- The request processor takes a trunk DATA frame for the field (R127). -/
  | trunkDataTaken
  /-- The trunk DATA frame in hand is placed in the field transmit queue (R127). -/
  | trunkDataPlaced
  /-- The field intake takes an EVT (R94). -/
  | evt
  /-- The field intake takes a STATE (R105). -/
  | state
  /-- The field intake takes a DATA frame (R160). -/
  | fieldDataTaken
  /-- The field DATA frame in hand is placed in the trunk transmit queue (R160). -/
  | fieldDataPlaced
  /-- The field intake takes a frame of another kind (R159). -/
  | strayFrame
  /-- A notice moves from a list into the trunk transmit queue (R85). -/
  | moveNotice
  /-- A slot that owes a query places a SYNCQ (R101). -/
  | placeSyncq
  /-- The wait timer of resync slot `slot`, 0..3, expires (R103). -/
  | resyncWaitExpiry (slot : Nat)
  /-- The service timer of the claim of agent `agent`, 0..3, on source `index`, 0..255, expires (R79). -/
  | serviceTimerExpiry (agent index : Nat)
  /-- A sample event: bit n of `levels` is the level of pin CINn, 1 for high (R117). -/
  | sampleEvent (levels : BitVec 16)
  /-- The trunk transmitter makes a choice (R163). -/
  | trunkTransmitter
  /-- The field transmitter begins sending its queue's head (R164). -/
  | fieldTransmitter
  /-- A port has sent the last byte of a frame (R154). `straps` are the levels of AS2..AS0 at that moment, read only
  when this is the reply of a RESTART, whose warm reset ends in the same act (R155, log 14). -/
  | frameTransmitted (port : PortId) (straps : BitVec 3)
  /-- A frame of these bytes, from its first to its last, arrives at a port (R153). -/
  | frameReceived (port : PortId) (bytes : List Byte)
  /-- A READY announcing `count`, 0..15, reaches a port (R150). -/
  | readyReceived (port : PortId) (count : Nat)
  /-- A CREDIT reaches a port (R154). -/
  | creditReceived (port : PortId)
  /-- The 3 ms of the quiet phase of a port have passed (R149). -/
  | quietPhaseEnd (port : PortId)
  /-- A port has sent nothing for 0.5 ms (R149). -/
  | readyFill (port : PortId)
  /-- A port has received nothing for 2 ms (R151). -/
  | silenceTimeout (port : PortId)
  /-- The RSTn pin is driven low (R147). -/
  | warmReset
  /-- The RSTn pin returns high, with these levels on AS2..AS0 (R158, R155). -/
  | resetEnd (straps : BitVec 3)
  /-- The supplies have come up, with these levels on AS2..AS0 and RSTn high (`true`) or low (R148, log 5). -/
  | powerOn (straps : BitVec 3) (rstn : Bool)
  deriving DecidableEq, Repr

end Sys2Proof
end

