-- ==== Sys2Proof/Decode.lean ====
section
/-! DEFINITION. The host's way to ask which command a word of opcode_table.json spells. No row of the table gives bits
for its command (the frames' own bytes are read by the part: Machine/Operands.lean), so no word spells one. -/

namespace Sys2Proof

/-- The command that the `nbits` low bits of `w` spell by the table's bits: none, for every word. -/
def decodeTableWord (_nbits _w : Nat) : Option Instr := none

end Sys2Proof
end

