-- ==== Sys2Proof/Config.lean ====
section
/-! DEFINITION. What the spec fixes for the part as a whole: sizes, thresholds, addresses, codes and defaults.
The spec leaves no value open, so there is no free value here. -/

namespace Sys2Proof.Config

/-- Receive buffers of one port (Chapter 9, opening). -/
abbrev receiveBuffers : Nat := 8
/-- Largest send credit (R154). -/
abbrev maxSendCredit : Nat := 15
/-- Largest payload of a frame (R153). -/
abbrev maxPayload : Nat := 48

/-- Field DATA enters the trunk transmit queue while it holds fewer (R160). -/
abbrev fieldDataThreshold : Nat := 20
/-- A request is taken while the trunk transmit queue holds fewer (R129). -/
abbrev replyThreshold : Nat := 28
/-- A notice moves while the trunk transmit queue holds fewer (R85). -/
abbrev noticeThreshold : Nat := 30
/-- Trunk DATA enters the field transmit queue while it holds fewer (R127). -/
abbrev trunkDataThreshold : Nat := 12
/-- A SYNCQ enters the field transmit queue while it holds fewer (R101). -/
abbrev queryThreshold : Nat := 16

/-- Claims of one agent (R71). -/
abbrev maxClaims : Nat := 8
/-- Stale marks of one agent (R80). -/
abbrev maxMarks : Nat := 8
/-- Notices on one agent's list (R84). -/
abbrev maxNotices : Nat := 8
/-- Largest service limit of a JOIN, in ms (R65). -/
abbrev maxServiceLimit : Nat := 60000

/-- Default resync wait, in units of 10 ms (R108). -/
abbrev defaultResyncWait : Nat := 10
/-- Default resync tries (R108). -/
abbrev defaultResyncTries : Nat := 3

/-- The revision code READ-PART reports (R137). -/
abbrev revisionCode : Byte := 1#8

/-- Base of the part address; the strap value is added (R155). -/
abbrev partBase : Byte := 0xF0#8
/-- Base of the agent stations (R63). -/
abbrev agentBase : Byte := 0xE0#8

/-! Kind codes (Table 11-2). -/

abbrev kindData : Byte := 0x01#8
abbrev kindEvt : Byte := 0x02#8
abbrev kindState : Byte := 0x03#8
abbrev kindSyncq : Byte := 0x04#8
abbrev kindReq : Byte := 0x10#8
abbrev kindRsp : Byte := 0x11#8
abbrev kindAlert : Byte := 0x12#8
abbrev kindNotice : Byte := 0x13#8

/-- The byte sent for an absent agent, slot or holder (R169). -/
abbrev noneByte : Byte := 0xFF#8

end Sys2Proof.Config
end

