-- ==== Sys2Proof/Machine/State.lean ====
section
/-! DEFINITION. The state of the CE412: every table, list, queue, counter, flag and pin of spec/, as plain data, and
the state a power-on reset leaves. -/

namespace Sys2Proof.Machine

/-! ## Names -/

/-- An agent 0..3 (R63). -/
abbrev AgentId := Fin 4
/-- A source index 0..255 (R1). -/
abbrev SourceIx := Fin 256
/-- A node id 0..63 (R91). -/
abbrev NodeId := Fin 64
/-- A channel 0..15 of a node, or a contact input (Table 1-1, R116). -/
abbrev Channel := Fin 16
/-- A promotion slot P0..P3 (R52). -/
abbrev PromoSlot := Fin 4
/-- A resync slot 0..3 (R100). -/
abbrev SlotId := Fin 4
/-- A rank or a mask, 0..7 (R4, R57, R58). -/
abbrev Rank := Fin 8

/-! ## Frames (Chapter 11) -/

/-- A good frame. LEN is the length of the payload (Table 11-1, R153). -/
structure Frame where
  dest : Byte
  orig : Byte
  kind : Byte
  tag : Byte
  payload : List Byte
  check : Half
  deriving DecidableEq, Repr

/-- A frame in a transmit queue. `restart` marks the reply of a RESTART (R145). -/
structure TxEntry where
  frame : Frame
  restart : Bool
  deriving DecidableEq, Repr

/-! ## Sources (Chapters 1 and 2) -/

/-- Class of a source (R3). -/
inductive SourceClass where
  | edge
  | level
  deriving DecidableEq, Repr

/-- Trigger of a source (R3). -/
inductive Trigger where
  | rising
  | falling
  | both
  deriving DecidableEq, Repr

/-- A transition of a channel (Section 2.3). -/
inductive Transition where
  | raise
  | fall
  | pulse
  deriving DecidableEq, Repr

/-- Configuration of a source (Table 1-1). Bit k of `route` is set when agent k is in the route. -/
structure SourceConfig where
  node : NodeId
  channel : Channel
  cls : SourceClass
  trigger : Trigger
  rank : Rank
  order : Fin 16
  route : BitVec 4
  blocked : Bool
  deriving DecidableEq, Repr

/-- The four reasons (R22). -/
structure Reasons where
  edgeOwed : Bool
  latched : Bool
  asserted : Bool
  forced : Bool
  deriving DecidableEq, Repr

/-- State of a source. The holder is present only when HELD (R7, R24). -/
inductive Status where
  | idle
  | pending
  | held (holder : AgentId)
  deriving DecidableEq, Repr

/-- A loaded source: configuration and dynamic record (R7, Table 2-1). -/
structure Source where
  config : SourceConfig
  status : Status
  reasons : Reasons
  uncertain : Bool
  merge : Byte
  deriving DecidableEq, Repr

/-! ## Agents (Chapter 4) -/

/-- Session of an agent (R64). -/
inductive Session where
  | detached
  | attached
  deriving DecidableEq, Repr

/-- The reasons a grant consumed (R40). -/
structure Consumed where
  edgeOwed : Bool
  latched : Bool
  deriving DecidableEq, Repr

/-- A claim (R71). `deadline` is present when the service limit was above 0 at the grant; it holds the length in ms
with which the service timer was started (R78, log 3). -/
structure Claim where
  source : SourceIx
  consumed : Consumed
  grant : Half
  deadline : Option Half
  deriving DecidableEq, Repr

/-- A notice (Table 4-3). -/
inductive Notice where
  | stale (index : SourceIx)
  | withdrawn (index : SourceIx)
  | gap (node : NodeId)
  | lost (node : NodeId)
  | regained (node : NodeId)
  | fieldDown
  | fieldUp
  deriving DecidableEq, Repr

/-- An agent record (Table 4-1). Whether it holds the role is in `State.role` (R133, log 13). -/
structure Agent where
  session : Session
  mask : Rank
  serviceLimit : Half
  noticeFlag : Bool
  claims : List Claim
  marks : List SourceIx
  notices : List Notice
  noticesLost : Bool
  alert : Bool
  lastSent : Rank
  reclaims : Half
  deriving DecidableEq, Repr

/-- The record after power-on or a warm reset (Table 4-1). -/
def Agent.afterReset : Agent :=
  { session := .detached, mask := 0, serviceLimit := 0#16, noticeFlag := false, claims := [], marks := [],
    notices := [], noticesLost := false, alert := false, lastSent := 0, reclaims := 0#16 }

/-! ## Nodes (Chapter 5) -/

/-- State of a present node (R93). -/
inductive NodeState where
  | synced
  | waiting
  | resyncing
  | lost
  deriving DecidableEq, Repr

/-- A present node's record (Table 5-1). A record that is not present is `none` in the node table. -/
structure Node where
  lossSource : Option SourceIx
  state : NodeState
  expected : Byte
  attempts : Nat
  wasLost : Bool
  gaps : Half
  unmapped : Half
  deriving DecidableEq, Repr

/-- Phase of a resync slot that holds a node (R100). `waiting` holds the length, in units of 10 ms, with which its wait
timer was started (R108, log 3). -/
inductive SlotPhase where
  | queryOwed
  | queryQueued
  | waiting (length : Nat)
  deriving DecidableEq, Repr

/-- A resync slot that holds a node (R100). A free slot is `none`. -/
structure Slot where
  node : NodeId
  phase : SlotPhase
  deriving DecidableEq, Repr

/-! ## Contact inputs (Chapter 6) -/

/-- Filter state of an input with the data it has there (Table 6-1). A level is `true` for high. -/
inductive Filter where
  | off
  | opening
  | settling (runLevel : Option Bool) (run : Nat)
  | settled (level : Bool) (run : Nat)
  deriving DecidableEq, Repr

/-- A contact input record (Table 6-1). It is enabled exactly when the filter state is not OFF (R116). -/
structure Contact where
  invert : Bool
  length : Fin 16
  filter : Filter
  deriving DecidableEq, Repr

/-! ## Ports and queues (Chapters 9 and 10) -/

/-- Link state of a port, with the two phases of TRAINING apart (R149). -/
inductive Link where
  | down
  | quiet
  | announcing
  | up
  deriving DecidableEq, Repr

/-- What a port is sending: an ALERT, or the head of its transmit queue (R163, R164). -/
inductive Sending where
  | alert (frame : Frame)
  | head
  deriving DecidableEq, Repr

/-- Something a port has sent (the model's own record of the line: log 8). -/
inductive LineItem where
  | frame (frame : Frame)
  | ready (count : Nat)
  | credit
  deriving DecidableEq, Repr

/-- One line port with its transmit queue (Section 9.1, R161, R164). `hold` says that the oldest buffered frame is a
DATA frame that has been taken and waits at a threshold (R127, R160). `creditsOwed` counts the CREDIT symbols due at
the next point between two frames (R152). -/
structure Line where
  link : Link
  sendCredit : Nat
  creditGiven : Nat
  rx : List Frame
  hold : Bool
  sending : Option Sending
  creditsOwed : Nat
  queue : List TxEntry
  sent : List LineItem
  deriving DecidableEq, Repr

/-- A port in DOWN, with nothing sent yet (R158). -/
def Line.afterReset : Line :=
  { link := .down, sendCredit := 0, creditGiven := 0, rx := [], hold := false, sending := none, creditsOwed := 0,
    queue := [], sent := [] }

/-! ## The whole part -/

/-- Part mode (R140). -/
inductive Mode where
  | standby
  | run
  deriving DecidableEq, Repr

/-- The seven part counters (Table 7-5). -/
structure Counters where
  trunkChecks : Half
  fieldChecks : Half
  foreign : Half
  stray : Half
  misdirected : Half
  droppedToTrunk : Half
  flushed : Half
  deriving DecidableEq, Repr

/-- Every counter 0 (R136). -/
def Counters.zero : Counters :=
  { trunkChecks := 0#16, fieldChecks := 0#16, foreign := 0#16, stray := 0#16, misdirected := 0#16,
    droppedToTrunk := 0#16, flushed := 0#16 }

/-- Input pins, as last read (00_scope.md, Pins): the contacts, the straps and RSTn (`true` for high). -/
structure Pins where
  cin : BitVec 16
  straps : BitVec 3
  rstn : Bool
  deriving DecidableEq, Repr

/-- The state of the part. -/
structure State where
  /-- Commands waiting, first in first out (the model's own). -/
  pending : List Instr
  /-- Part mode (R140). -/
  mode : Mode
  /-- Retained flag (R140). -/
  retained : Bool
  /-- Holder of the management role (R133). -/
  role : Option AgentId
  /-- Resync wait in units of 10 ms (R108). -/
  resyncWait : Nat
  /-- Resync tries (R108). -/
  resyncTries : Nat
  /-- Part counters (R136). -/
  counters : Counters
  /-- Strap value read when the last reset ended (R155). -/
  straps : BitVec 3
  /-- Source table; a vacant index is `none` (R1). -/
  sources : Vector (Option Source) 256
  /-- Promotion entries; an empty entry is `none` (R52). -/
  promotion : Vector (Option SourceIx) 4
  /-- Agent records (R63). -/
  agents : Vector Agent 4
  /-- Number the next grant takes (R72). -/
  grantNumber : Half
  /-- Node table; a record that is not present is `none` (R91). -/
  nodes : Vector (Option Node) 64
  /-- Wait list, oldest first (R99). -/
  waitList : List NodeId
  /-- Resync slots (R100). -/
  slots : Vector (Option Slot) 4
  /-- Contact input records (R116). -/
  contacts : Vector Contact 16
  /-- Trunk port and trunk transmit queue. -/
  trunk : Line
  /-- Field port and field transmit queue. -/
  field : Line
  /-- Input pins. -/
  pins : Pins
  deriving DecidableEq, Repr

/-- Node 0 as power-on leaves it (R92, R114). -/
def Node.contactBlock : Node :=
  { lossSource := none, state := .synced, expected := 0#8, attempts := 0, wasLost := false, gaps := 0#16,
    unmapped := 0#16 }

/-- An input record after power-on (Table 6-1). -/
def Contact.afterPowerOn : Contact := { invert := false, length := 0, filter := .off }

/-- The part after a power-on reset, while RSTn still holds it in reset: both ports are DOWN (R148, R158). The strap
and contact pins are low there (DESIGN CHOICE, log 4). -/
def State.reset : State :=
  { pending := []
    mode := .standby
    retained := false
    role := none
    resyncWait := Config.defaultResyncWait
    resyncTries := Config.defaultResyncTries
    counters := Counters.zero
    straps := 0#3
    sources := Vector.replicate 256 none
    promotion := Vector.replicate 4 none
    agents := Vector.replicate 4 Agent.afterReset
    grantNumber := 0#16
    nodes := (Vector.replicate 64 none).set 0 (some Node.contactBlock)
    waitList := []
    slots := Vector.replicate 4 none
    contacts := Vector.replicate 16 Contact.afterPowerOn
    trunk := Line.afterReset
    field := Line.afterReset
    pins := { cin := 0#16, straps := 0#3, rstn := false } }

/-- The part never stops with a fault: every event the spec names has an effect or none (log 20). -/
inductive Fault where
  deriving DecidableEq, Repr

/-- Why a command is refused. -/
inductive Refusal where
  /-- Raised by exec alone, for a row that has no meaning yet. Safe: nothing can be proved about such a step. -/
  | notModelled (mnemonic : String)
  /-- Raised by RESYNC_WAIT_EXPIRY, SERVICE_TIMER_EXPIRY and READY_RECEIVED when they name a slot, agent, index or
  count that does not exist (R100, R63, R1, Chapter 9): no event of the part is such a command. Safe (log 15). -/
  | noSuchOperand
  deriving DecidableEq, Repr

/-- The outcome of a step of the part. -/
abbrev Outcome := Host.Outcome State Fault Refusal

end Sys2Proof.Machine
end

