-- ==== Sys2Proof/Machine/Ops.lean ====
section
/-! DEFINITION. Named operations over the tables, counters, frames, ports and queues. -/

namespace Sys2Proof.Machine

open Sys2Proof

/-! ## Counts -/

/-- Adds `n` to a count that saturates at its largest value (00_scope.md, Counters). -/
def satAdd {w : Nat} (c : BitVec w) (n : Nat) : BitVec w := BitVec.ofNat w (min (c.toNat + n) (2 ^ w - 1))

/-- Adds one to a count that saturates. -/
def satSucc {w : Nat} (c : BitVec w) : BitVec w := satAdd c 1

/-! ## Tables: every read and write goes through these -/

/-- The source loaded at an index, if any (R1). -/
def State.source (s : State) (i : SourceIx) : Option Source := s.sources[i]

/-- Loads, replaces or removes the source at an index. -/
def State.setSource (s : State) (i : SourceIx) (a : Option Source) : State :=
  { s with sources := s.sources.set i a }

/-- The loaded sources with their indexes, in ascending index. -/
def State.loaded (s : State) : List (SourceIx × Source) :=
  ((List.finRange 256).zip s.sources.toList).filterMap fun p => p.2.map (Prod.mk p.1)

/-- The index whose source is keyed (`n`, `c`), the lowest where several were (R2, log 16). -/
def State.keyed (s : State) (n : NodeId) (c : Channel) : Option SourceIx :=
  (s.loaded.find? fun p => decide (p.2.config.node = n ∧ p.2.config.channel = c)).map Prod.fst

/-- Changes every loaded source of a node. -/
def State.mapSourcesOf (s : State) (n : NodeId) (f : Source → Source) : State :=
  { s with sources := s.sources.map (Option.map fun a => if a.config.node = n then f a else a) }

/-- The number of loaded sources keyed to a node (R111). -/
def State.keyedCount (s : State) (n : NodeId) : Nat :=
  (s.loaded.filter fun p => decide (p.2.config.node = n)).length

/-- An agent's record (R63). -/
def State.agent (s : State) (k : AgentId) : Agent := s.agents[k]

/-- Replaces an agent's record. -/
def State.setAgent (s : State) (k : AgentId) (a : Agent) : State := { s with agents := s.agents.set k a }

/-- Changes an agent's record. -/
def State.modAgent (s : State) (k : AgentId) (f : Agent → Agent) : State := s.setAgent k (f (s.agent k))

/-- An agent is ATTACHED (R64). -/
def Agent.attached (a : Agent) : Bool := decide (a.session = .attached)

/-- The record of a node, if it is present (R91). -/
def State.node (s : State) (n : NodeId) : Option Node := s.nodes[n]

/-- Makes a node's record present with these fields, or not present. -/
def State.setNode (s : State) (n : NodeId) (r : Option Node) : State := { s with nodes := s.nodes.set n r }

/-- Changes a node's record where it is present. -/
def State.modNode (s : State) (n : NodeId) (f : Node → Node) : State := s.setNode n ((s.node n).map f)

/-- The promotion slot that names an index, if any (R52). -/
def State.promoSlot (s : State) (i : SourceIx) : Option PromoSlot :=
  (List.finRange 4).find? fun p => decide (s.promotion[p] = some i)

/-- Adds one to a part counter chosen by `f` (R136). -/
def State.count (s : State) (f : Counters → Counters) : State := { s with counters := f s.counters }

def Counters.addStray (c : Counters) : Counters := { c with stray := satSucc c.stray }
def Counters.addForeign (c : Counters) : Counters := { c with foreign := satSucc c.foreign }
def Counters.addMisdirected (c : Counters) : Counters := { c with misdirected := satSucc c.misdirected }
def Counters.addDropped (c : Counters) : Counters := { c with droppedToTrunk := satSucc c.droppedToTrunk }
/-- The flushed count goes up by a whole number of frames (R136). -/
def Counters.addFlushed (n : Nat) (c : Counters) : Counters := { c with flushed := satAdd c.flushed n }
/-- A port's check-error count goes up by one (R153). -/
def Counters.addCheck (p : PortId) (c : Counters) : Counters :=
  match p with
  | .trunk => { c with trunkChecks := satSucc c.trunkChecks }
  | .field => { c with fieldChecks := satSucc c.fieldChecks }

/-! ## Frames (Chapter 11) -/

/-- One bit of the frame check: generator x^16+x^12+x^5+1, most significant bit first (R153). -/
def crcBit (c : Half) (b : Bool) : Half :=
  if c.msb != b then (c <<< 1) ^^^ 0x1021#16 else c <<< 1

/-- One byte of the frame check, most significant bit first (R153). -/
def crcByte (c : Half) (b : Byte) : Half :=
  [7, 6, 5, 4, 3, 2, 1, 0].foldl (fun c i => crcBit c (b.getLsbD i)) c

/-- The frame check of a list of bytes: it starts with all bits set and has no final inversion (R153). -/
def crc16 (bs : List Byte) : Half := bs.foldl crcByte 0xFFFF#16

/-- A two-byte value, most significant byte first (00_scope.md, Numbers). -/
def halfBytes (h : Half) : List Byte := [h.extractLsb' 8 8, h.extractLsb' 0 8]

/-- The two-byte value that two bytes spell, most significant first. -/
def halfOf (hi lo : Byte) : Half := (hi ++ lo : BitVec 16)

/-- The bytes the check covers: header and payload (R153). -/
def Frame.covered (f : Frame) : List Byte :=
  [f.dest, f.orig, f.kind, f.tag, BitVec.ofNat 8 f.payload.length] ++ f.payload

/-- The frame as it stands on the line (Table 11-1). -/
def Frame.bytes (f : Frame) : List Byte := f.covered ++ halfBytes f.check

/-- The frame with the check R153 gives it. -/
def Frame.sealed (dest orig kind tag : Byte) (payload : List Byte) : Frame :=
  let f : Frame := { dest, orig, kind, tag, payload, check := 0#16 }
  { f with check := crc16 f.covered }

/-- The good frame that received bytes spell: at least 7 bytes, LEN 0..48, LEN plus 7 bytes in all, and the right
check; none otherwise (R153). -/
def Frame.ofBytes? (bs : List Byte) : Option Frame :=
  match bs with
  | dest :: orig :: kind :: tag :: len :: rest =>
    if len.toNat ≤ Config.maxPayload ∧ rest.length = len.toNat + 2 then
      match rest.drop len.toNat with
      | [hi, lo] =>
        let f : Frame := { dest, orig, kind, tag, payload := rest.take len.toNat, check := halfOf hi lo }
        if f.check = crc16 f.covered then some f else none
      | _ => none
    else none
  | _ => none

/-- The part address: 0xF0 plus the strap value (R155). -/
def State.partAddr (s : State) : Byte := Config.partBase + s.straps.setWidth 8

/-- A frame the part builds carries the part address as its origin (R166). -/
def State.build (s : State) (dest kind tag : Byte) (payload : List Byte) : Frame :=
  Frame.sealed dest s.partAddr kind tag payload

/-- The station of an agent: 0xE0 plus k (R63). -/
def agentStation (k : AgentId) : Byte := Config.agentBase + BitVec.ofNat 8 k.val

/-- The agent whose station an address is, if any (R155). -/
def agentOf (a : Byte) : Option AgentId := (List.finRange 4).find? fun k => decide (agentStation k = a)

/-- The field station an address is: a node id 1..63 (R155). -/
def stationOf (a : Byte) : Option NodeId :=
  if h : a.toNat < 64 then (if a.toNat = 0 then none else some ⟨a.toNat, h⟩) else none

/-- The present field node that a station address names (R94, R127). -/
def State.fieldNode (s : State) (a : Byte) : Option NodeId :=
  (stationOf a).filter fun n => (s.node n).isSome

/-! ## Ports (Chapter 9) -/

/-- A port of the part. -/
def State.line (s : State) : PortId → Line
  | .trunk => s.trunk
  | .field => s.field

/-- Replaces a port. -/
def State.setLine (s : State) (p : PortId) (l : Line) : State :=
  match p with
  | .trunk => { s with trunk := l }
  | .field => { s with field := l }

/-- The port sends link symbols: in the announcing phase and in UP (R149, R154). -/
def Line.talks (l : Line) : Bool := decide (l.link = .announcing ∨ l.link = .up)

/-- Sends `n` CREDIT symbols: at once when no frame is being sent, otherwise at the next point between two frames; none
in DOWN or the quiet phase (R152). -/
def Line.sendCredits (l : Line) (n : Nat) : Line :=
  if l.talks then
    (if l.sending.isSome then { l with creditsOwed := l.creditsOwed + n }
     else { l with sent := l.sent ++ List.replicate n .credit })
  else l

/-- A buffer that is made free is lent again with a CREDIT (R152). -/
def Line.lend (l : Line) : Line := Line.sendCredits { l with creditGiven := l.creditGiven + 1 } 1

/-- The block that owns the received traffic has finished with the oldest frame (R126, R159). -/
def Line.finishHead (l : Line) : Line := Line.lend { l with rx := l.rx.tail, hold := false }

/-- The port enters the quiet phase of TRAINING, lending `given` buffers at the start of the link, with nothing in its
buffers, nothing being sent and an empty queue (R150, R151, R156, R157, R158). -/
def Line.enterQuiet (l : Line) (given : Nat) : Line :=
  { l with link := .quiet, sendCredit := 0, creditGiven := given, rx := [], hold := false, sending := none,
           creditsOwed := 0, queue := [] }

/-- A port put in DOWN by a reset (R158). The record of what it has sent stays (log 8). -/
def Line.reset (l : Line) : Line := { Line.afterReset with sent := l.sent }

/-- The port may begin a frame: it is UP, has credit and is not sending (R154, R163, R164). -/
def Line.canSend (l : Line) : Bool := decide (l.link = .up) && decide (0 < l.sendCredit) && l.sending.isNone

/-- The port begins to send, at a cost of one credit (R154). -/
def Line.begin (l : Line) (w : Sending) : Line :=
  { l with sending := some w, sendCredit := l.sendCredit - 1 }

/-- The port has sent the last byte of `f`: the CREDITs that waited for this point follow it (R152, R154). -/
def Line.finishSending (l : Line) (f : Frame) : Line :=
  { l with sending := none, creditsOwed := 0,
           sent := l.sent ++ LineItem.frame f :: List.replicate l.creditsOwed .credit }

/-- Places a frame at the tail of the transmit queue (R161, R164). -/
def Line.place (l : Line) (f : Frame) (restart : Bool := false) : Line :=
  { l with queue := l.queue ++ [{ frame := f, restart }] }

/-- Buffers the field port lends at the start of a link: none in STANDBY (R150, R142). -/
def State.fieldGiven (s : State) : Nat :=
  match s.mode with
  | .run => Config.receiveBuffers
  | .standby => 0

/-- Restart pending stands while the marked reply is in the trunk transmit queue (R145, R146, log 13). -/
def State.restartPending (s : State) : Bool := s.trunk.queue.any TxEntry.restart

end Sys2Proof.Machine
end

