-- ==== Sys2Proof/Machine/Flags.lean ====
section
/-! DEFINITION. The reasons and the pending condition of a source (Chapter 2), the ranking and the attention ranks
(Chapter 3), the alert flags (R59, R87) and the uncertain flags (R30, R93). -/

namespace Sys2Proof.Machine

/-! ## The pending condition -/

/-- At least one active reason for the class is set (R22). -/
def Source.active (a : Source) : Bool :=
  match a.config.cls with
  | .edge => a.reasons.edgeOwed || a.reasons.forced
  | .level => a.reasons.asserted || a.reasons.latched || a.reasons.forced

/-- The state that the reasons of a source that is not HELD imply (R22). -/
def Source.implied (a : Source) : Status := if a.active then .pending else .idle

/-- Evaluates the pending condition; a HELD source stays HELD (R23). -/
def Source.settle (a : Source) : Source :=
  match a.status with
  | .held _ => a
  | .idle => { a with status := a.implied }
  | .pending => { a with status := a.implied }

/-- The source is HELD. -/
def Source.isHeld (a : Source) : Bool :=
  match a.status with
  | .held _ => true
  | .idle => false
  | .pending => false

/-! ## Events on one source -/

/-- A trigger: sets edge-owed, or counts a merge where it is set (R25). -/
def Source.oneTrigger (a : Source) : Source :=
  if a.reasons.edgeOwed then { a with merge := satSucc a.merge }
  else { a with reasons := { a.reasons with edgeOwed := true } }

/-- A latch: sets latched, or counts a merge where it is set (R26). -/
def Source.oneLatch (a : Source) : Source :=
  if a.reasons.latched then { a with merge := satSucc a.merge }
  else { a with reasons := { a.reasons with latched := true } }

/-- Sets or clears asserted (R27). -/
def Source.assert (a : Source) (active : Bool) : Source :=
  { a with reasons := { a.reasons with asserted := active } }

/-- The reasons after a transition (R32 to R36, Table 2-2). -/
def Source.react (a : Source) (t : Transition) : Source :=
  match a.config.cls, t, a.config.trigger with
  | .edge, .raise, .rising => (a.assert true).oneTrigger
  | .edge, .raise, .falling => a.assert true
  | .edge, .raise, .both => (a.assert true).oneTrigger
  | .edge, .fall, .rising => a.assert false
  | .edge, .fall, .falling => (a.assert false).oneTrigger
  | .edge, .fall, .both => (a.assert false).oneTrigger
  | .edge, .pulse, .rising => a.oneTrigger
  | .edge, .pulse, .falling => a.oneTrigger
  | .edge, .pulse, .both => a.oneTrigger.oneTrigger
  | .level, .raise, _ => a.assert true
  | .level, .fall, _ => a.assert false
  | .level, .pulse, _ => a.oneLatch

/-- A transition applied whole: reasons, then the pending condition (R31, R23). -/
def Source.transition (t : Transition) (a : Source) : Source := (a.react t).settle

/-- A level of a state report or of the node-0 refresh (R37). -/
def Source.takeLevel (active : Bool) (a : Source) : Source :=
  match a.config.cls with
  | .level => (a.assert active).settle
  | .edge => if a.reasons.asserted = active then a else a.transition (if active then .raise else .fall)

/-- FORCE and RELEASE (R38, R39). -/
def Source.setForced (b : Bool) (a : Source) : Source :=
  Source.settle { a with reasons := { a.reasons with forced := b } }

/-- The reasons a grant consumes (R40). -/
def Source.consumed (a : Source) : Consumed := { edgeOwed := a.reasons.edgeOwed, latched := a.reasons.latched }

/-- A grant to agent k (R40). -/
def Source.grant (k : AgentId) (a : Source) : Source :=
  { a with status := .held k, reasons := { a.reasons with edgeOwed := false, latched := false }, merge := 0#8 }

/-- A completion: the holder is removed and the pending condition evaluated (R41). -/
def Source.complete (a : Source) : Source := { a with status := a.implied }

/-- A reclaim: consumed reasons are restored, or counted as merges, and the holder is removed (R42). -/
def Source.reclaim (c : Consumed) (a : Source) : Source :=
  let b := if c.edgeOwed then a.oneTrigger else a
  let d := if c.latched then b.oneLatch else b
  d.complete

/-- The dynamic record a warm reset leaves (R44). -/
def Source.warm (a : Source) : Source :=
  { a with status := .idle, uncertain := decide (a.config.node ≠ 0), merge := 0#8,
           reasons := { edgeOwed := false, latched := false, asserted := false, forced := false } }

/-! ## Ranking (R48, R49) -/

/-- Effective rank: 6 for a promoted source, otherwise the configured rank (R48). -/
def State.effectiveRank (s : State) (i : SourceIx) (a : Source) : Rank :=
  if (s.promoSlot i).isSome then 6 else a.config.rank

/-- Steps 3 and 4 of R49: higher order, then lower index. -/
def orderFirst (p q : SourceIx × Source) : Bool :=
  if p.2.config.order = q.2.config.order then decide (p.1 < q.1) else decide (q.2.config.order < p.2.config.order)

/-- `p` comes before `q` in the best-source order (R49). -/
def State.before (s : State) (p q : SourceIx × Source) : Bool :=
  if s.effectiveRank p.1 p.2 = s.effectiveRank q.1 q.2 then
    match s.promoSlot p.1, s.promoSlot q.1 with
    | some m, some n => if m = n then orderFirst p q else decide (m < n)
    | some _, none => true
    | none, some _ => false
    | none, none => orderFirst p q
  else decide (s.effectiveRank q.1 q.2 < s.effectiveRank p.1 p.2)

/-- The earlier of the best so far and one more source (R49). -/
def State.pick (s : State) (m : Option (SourceIx × Source)) (p : SourceIx × Source) : Option (SourceIx × Source) :=
  match m with
  | none => some p
  | some q => if s.before p q then some p else some q

/-- The one of a list that comes first (R49). -/
def State.first (s : State) (l : List (SourceIx × Source)) : Option (SourceIx × Source) := l.foldl s.pick none

/-- The best source among the loaded sources that meet `P` (R49). -/
def State.best (s : State) (P : SourceIx → Source → Bool) : Option (SourceIx × Source) :=
  s.first (s.loaded.filter fun p => P p.1 p.2)

/-- Agent k is in the route of a source (R5). -/
def Source.routedTo (a : Source) (k : AgentId) : Bool := a.config.route.getLsbD k.val

/-- The source is PENDING, unblocked and routed to agent k: common to R50 and R57. -/
def Source.waitsFor (a : Source) (k : AgentId) : Bool :=
  decide (a.status = .pending) && !a.config.blocked && a.routedTo k

/-- Eligible for a CLAIM or PEEK of agent k between floor and ceiling (R50). -/
def State.eligible (s : State) (k : AgentId) (floor ceiling : Rank) (i : SourceIx) (a : Source) : Bool :=
  a.waitsFor k && decide (floor ≤ s.effectiveRank i a) && decide (s.effectiveRank i a ≤ ceiling)

/-! ## Attention (R57 to R62) -/

/-- The source counts toward the attention of agent k (R57). -/
def State.raises (s : State) (k : AgentId) (i : SourceIx) (a : Source) : Bool :=
  a.waitsFor k && (decide ((s.agent k).mask < s.effectiveRank i a) || decide (s.effectiveRank i a = 7))

/-- The attention rank of agent k, 0 when no source counts or it is DETACHED (R57, R62). -/
def State.attention (s : State) (k : AgentId) : Rank :=
  if (s.agent k).attached then
    match s.best (s.raises k) with
    | some p => s.effectiveRank p.1 p.2
    | none => 0
  else 0

/-- The record of agent k after a re-evaluation (R59). -/
def State.evaluated (s : State) (k : AgentId) : Agent :=
  let a := s.agent k
  if a.attached && decide (s.attention k ≠ a.lastSent) then { a with alert := true } else a

/-- Re-evaluates one agent (R60). -/
def State.reEvaluate (s : State) (k : AgentId) : State := s.setAgent k (s.evaluated k)

/-- Re-evaluates every attached agent (R59). -/
def State.reEvaluateAll (s : State) : State := { s with agents := Vector.ofFn s.evaluated }

/-- Applies an event to the source at an index, if one is loaded, and re-evaluates every attached agent when its state
changed (R23, R59). -/
def State.changeSource (s : State) (i : SourceIx) (f : Source → Source) : State :=
  match s.source i with
  | none => s
  | some a =>
    let t := s.setSource i (some (f a))
    if (f a).status = a.status then t else t.reEvaluateAll

/-- Sets or clears the uncertain flag of every source of a node (R30, R93). -/
def State.markUncertain (s : State) (n : NodeId) (b : Bool) : State :=
  s.mapSourcesOf n fun a => { a with uncertain := b }

end Sys2Proof.Machine
end

