-- ==== Sys2Proof/Machine/Operands.lean ====
section
/-! DEFINITION. What the bytes of frames say: field payloads (Section 11.2), request codes and arguments (Section 11.3),
statuses and reports (Section 11.4), alerts and notices (Section 11.5). -/

namespace Sys2Proof.Machine

open Sys2Proof

/-! ## Bytes that stand for values -/

/-- A byte as an index below `n`, or none when it is out of range. -/
def below (n : Nat) (b : Byte) : Option (Fin n) := if h : b.toNat < n then some ⟨b.toNat, h⟩ else none

/-- A source index: any byte (R1, R168). -/
def indexOf (b : Byte) : SourceIx := ⟨b.toNat, b.isLt⟩

/-- A rank 1..7 (R50, R8). -/
def rankOf (b : Byte) : Option Rank := (below 8 b).filter fun r => decide (r ≠ 0)

/-- A flag (Section 11.3, value codes). -/
def flagOf (b : Byte) : Option Bool := if b = 0#8 then some false else if b = 1#8 then some true else none

/-- A class (Section 11.3). -/
def classOf (b : Byte) : Option SourceClass := if b = 0#8 then some .edge else if b = 1#8 then some .level else none

/-- A trigger (Section 11.3). -/
def triggerOf (b : Byte) : Option Trigger :=
  if b = 0#8 then some .rising else if b = 1#8 then some .falling else if b = 2#8 then some .both else none

/-- A route: bits 4..7 are zero (Section 11.3). -/
def routeOf (b : Byte) : Option (BitVec 4) := if b.toNat < 16 then some (b.setWidth 4) else none

/-- A transition code of an EVT (Table 11-3). -/
def transitionOf (b : Byte) : Option Transition :=
  if b = 1#8 then some .raise else if b = 2#8 then some .fall else if b = 3#8 then some .pulse else none

def byteOf (n : Nat) : Byte := BitVec.ofNat 8 n
def flagByte (b : Bool) : Byte := if b then 1#8 else 0#8

def SourceClass.byte : SourceClass → Byte
  | .edge => 0#8
  | .level => 1#8

def Trigger.byte : Trigger → Byte
  | .rising => 0#8
  | .falling => 1#8
  | .both => 2#8

def Status.byte : Status → Byte
  | .idle => 0#8
  | .pending => 1#8
  | .held _ => 2#8

def NodeState.byte : NodeState → Byte
  | .synced => 0#8
  | .waiting => 1#8
  | .resyncing => 2#8
  | .lost => 3#8

def SlotPhase.byte : SlotPhase → Byte
  | .queryOwed => 1#8
  | .queryQueued => 2#8
  | .waiting _ => 3#8

def Filter.byte : Filter → Byte
  | .off => 0#8
  | .opening => 1#8
  | .settling _ _ => 2#8
  | .settled _ _ => 3#8

def Mode.byte : Mode → Byte
  | .standby => 0#8
  | .run => 1#8

def Session.byte : Session → Byte
  | .detached => 0#8
  | .attached => 1#8

/-- An agent, slot or holder that may be absent (Section 11.3). -/
def optByte {n : Nat} : Option (Fin n) → Byte
  | some k => byteOf k.val
  | none => Config.noneByte

/-- Reasons (Section 11.3): bit 0 edge-owed, bit 1 latched, bit 2 asserted, bit 3 forced. -/
def Reasons.byte (r : Reasons) : Byte :=
  byteOf (r.edgeOwed.toNat + 2 * r.latched.toNat + 4 * r.asserted.toNat + 8 * r.forced.toNat)

/-- Consumed reasons, in the same bits (Section 11.3). -/
def Consumed.byte (c : Consumed) : Byte := byteOf (c.edgeOwed.toNat + 2 * c.latched.toNat)

/-! ## Field payloads (Table 11-3) -/

/-- Channel, transition and sequence number of an EVT; none when it is malformed (R167). -/
def evtOf : List Byte → Option (Channel × Transition × Byte)
  | [c, t, q] =>
    match below 16 c, transitionOf t with
    | some c, some t => some (c, t, q)
    | _, _ => none
  | _ => none

/-- Level map and next sequence number of a STATE; none when it is malformed (R167). -/
def stateOf : List Byte → Option (BitVec 16 × Byte)
  | [hi, lo, q] => some (halfOf hi lo, q)
  | _ => none

/-! ## Request codes (Table 11-4, Table 7-3) -/

/-- The 24 requests. -/
inductive ReqCode where
  | join | leave | setMask | readAgent | claim | peek | done | putPromotion | clearPromotion | putSource | dropSource
  | block | unblock | readSource | force | release | putNode | dropNode | readNode | setContact | setTiming | readPart
  | resume | restart
  deriving DecidableEq, Repr

/-- Every request, in the order of Table 11-4. -/
def ReqCode.all : List ReqCode :=
  [.join, .leave, .setMask, .readAgent, .claim, .peek, .done, .putPromotion, .clearPromotion, .putSource, .dropSource,
   .block, .unblock, .readSource, .force, .release, .putNode, .dropNode, .readNode, .setContact, .setTiming, .readPart,
   .resume, .restart]

/-- Code byte of a request (Table 11-4). -/
def ReqCode.byte : ReqCode → Byte
  | .join => 0x01#8
  | .leave => 0x02#8
  | .setMask => 0x03#8
  | .readAgent => 0x04#8
  | .claim => 0x05#8
  | .peek => 0x06#8
  | .done => 0x07#8
  | .putPromotion => 0x08#8
  | .clearPromotion => 0x09#8
  | .putSource => 0x0A#8
  | .dropSource => 0x0B#8
  | .block => 0x0C#8
  | .unblock => 0x0D#8
  | .readSource => 0x0E#8
  | .force => 0x0F#8
  | .release => 0x10#8
  | .putNode => 0x11#8
  | .dropNode => 0x12#8
  | .readNode => 0x13#8
  | .setContact => 0x14#8
  | .setTiming => 0x15#8
  | .readPart => 0x16#8
  | .resume => 0x17#8
  | .restart => 0x18#8

/-- The request a code byte names; none when the code is undefined. -/
def ReqCode.of? (b : Byte) : Option ReqCode := ReqCode.all.find? fun c => decide (c.byte = b)

/-- Payload length, the code byte included (Table 11-4). -/
def ReqCode.len : ReqCode → Nat
  | .join => 6
  | .leave => 1
  | .setMask => 2
  | .readAgent => 2
  | .claim => 3
  | .peek => 3
  | .done => 2
  | .putPromotion => 3
  | .clearPromotion => 2
  | .putSource => 10
  | .dropSource => 2
  | .block => 2
  | .unblock => 2
  | .readSource => 2
  | .force => 2
  | .release => 2
  | .putNode => 4
  | .dropNode => 2
  | .readNode => 3
  | .setContact => 5
  | .setTiming => 3
  | .readPart => 2
  | .resume => 1
  | .restart => 1

/-- The request needs a session (Table 7-3). -/
def ReqCode.needsSession : ReqCode → Bool
  | .join => false
  | .leave => true
  | .setMask => true
  | .readAgent => false
  | .claim => true
  | .peek => true
  | .done => true
  | .putPromotion => true
  | .clearPromotion => true
  | .putSource => true
  | .dropSource => true
  | .block => true
  | .unblock => true
  | .readSource => false
  | .force => true
  | .release => true
  | .putNode => true
  | .dropNode => true
  | .readNode => false
  | .setContact => true
  | .setTiming => true
  | .readPart => false
  | .resume => true
  | .restart => true

/-- The clear option of READ-NODE and READ-PART among the arguments; none for every other request (R131). -/
def ReqCode.clearOption (c : ReqCode) (args : List Byte) : Option Byte :=
  match c, args with
  | .readNode, [_, o] => some o
  | .readPart, [o] => some o
  | _, _ => none

/-- The request needs the role; READ-NODE and READ-PART need it with their clear option set (Table 7-3). -/
def ReqCode.needsRole (c : ReqCode) (args : List Byte) : Bool :=
  match c with
  | .join => false
  | .leave => false
  | .setMask => false
  | .readAgent => false
  | .claim => false
  | .peek => false
  | .done => false
  | .putPromotion => true
  | .clearPromotion => true
  | .putSource => true
  | .dropSource => true
  | .block => true
  | .unblock => true
  | .readSource => false
  | .force => true
  | .release => true
  | .putNode => true
  | .dropNode => true
  | .readNode => decide (c.clearOption args = some 1#8)
  | .setContact => true
  | .setTiming => true
  | .readPart => decide (c.clearOption args = some 1#8)
  | .resume => true
  | .restart => true

/-- The part mode the request needs, if it needs one (Table 7-3). -/
def ReqCode.needsMode : ReqCode → Option Mode
  | .join => none
  | .leave => none
  | .setMask => none
  | .readAgent => none
  | .claim => some .run
  | .peek => some .run
  | .done => some .run
  | .putPromotion => none
  | .clearPromotion => none
  | .putSource => none
  | .dropSource => none
  | .block => none
  | .unblock => none
  | .readSource => none
  | .force => some .run
  | .release => none
  | .putNode => none
  | .dropNode => none
  | .readNode => none
  | .setContact => none
  | .setTiming => none
  | .readPart => none
  | .resume => some .standby
  | .restart => none

/-- Well-formed arguments: the length is right and a clear option carries a defined code (R131, R168). -/
def ReqCode.wellFormed (c : ReqCode) (args : List Byte) : Bool :=
  decide (args.length + 1 = c.len) &&
    match c.clearOption args with
    | some o => (flagOf o).isSome
    | none => true

/-! ## Arguments read by the owning blocks (R168): none means BAD_ARGUMENT -/

/-- Arguments of a JOIN (R65). -/
structure JoinArgs where
  mask : Rank
  serviceLimit : Half
  noticeFlag : Bool
  wantRole : Bool
  deriving DecidableEq, Repr

def joinArgs : List Byte → Option JoinArgs
  | [m, hi, lo, n, w] =>
    match below 8 m, flagOf n, flagOf w with
    | some mask, some noticeFlag, some wantRole =>
      if (halfOf hi lo).toNat ≤ Config.maxServiceLimit then
        some { mask, serviceLimit := halfOf hi lo, noticeFlag, wantRole }
      else none
    | _, _, _ => none
  | _ => none

/-- A mask (R69). -/
def maskArg : List Byte → Option Rank
  | [m] => below 8 m
  | _ => none

/-- An agent number (R70). -/
def agentArg : List Byte → Option AgentId
  | [j] => below 4 j
  | _ => none

/-- Floor and ceiling, each 1..7, the floor not above the ceiling (R50). -/
def rangeArgs : List Byte → Option (Rank × Rank)
  | [f, c] =>
    match rankOf f, rankOf c with
    | some floor, some ceiling => if floor ≤ ceiling then some (floor, ceiling) else none
    | _, _ => none
  | _ => none

/-- A source index (R1). -/
def indexArg : List Byte → Option SourceIx
  | [i] => some (indexOf i)
  | _ => none

/-- A promotion slot and a source index (R53). -/
def promoArgs : List Byte → Option (PromoSlot × SourceIx)
  | [p, i] => (below 4 p).map fun p => (p, indexOf i)
  | _ => none

/-- A promotion slot (R55). -/
def slotArg : List Byte → Option PromoSlot
  | [p] => below 4 p
  | _ => none

/-- The index and configuration of a PUT-SOURCE: step 1 of R8. -/
def sourceArgs : List Byte → Option (SourceIx × SourceConfig)
  | [i, n, c, k, t, r, o, ro, b] =>
    match below 64 n, below 16 c, classOf k, triggerOf t, rankOf r, below 16 o, routeOf ro, flagOf b with
    | some node, some channel, some cls, some trigger, some rank, some order, some route, some blocked =>
      some (indexOf i, { node, channel, cls, trigger, rank, order, route, blocked })
    | _, _, _, _, _, _, _, _ => none
  | _ => none

/-- Node id and loss source of a PUT-NODE; the loss index is not read when the flag is clear (R109, R168). -/
def putNodeArgs : List Byte → Option (NodeId × Option SourceIx)
  | [n, p, i] =>
    match below 64 n, flagOf p with
    | some n, some present => some (n, if present then some (indexOf i) else none)
    | _, _ => none
  | _ => none

/-- A node id 1..63 (R110). -/
def fieldNodeArg : List Byte → Option NodeId
  | [n] => (below 64 n).filter fun n => decide (n ≠ 0)
  | _ => none

/-- Node id and clear option of a READ-NODE (R111). -/
def readNodeArgs : List Byte → Option (NodeId × Bool)
  | [n, o] => (below 64 n).map fun n => (n, decide (o = 1#8))
  | _ => none

/-- Arguments of a SET-CONTACT (R120). -/
structure ContactArgs where
  input : Channel
  enabled : Bool
  invert : Bool
  length : Fin 16
  deriving DecidableEq, Repr

def contactArgs : List Byte → Option ContactArgs
  | [n, e, v, l] =>
    match below 16 n, flagOf e, flagOf v, below 16 l with
    | some input, some enabled, some invert, some length => some { input, enabled, invert, length }
    | _, _, _, _ => none
  | _ => none

/-- Resync wait 1..255 and resync tries 1..7 (R135). -/
def timingArgs : List Byte → Option (Nat × Nat)
  | [w, t] => if 1 ≤ w.toNat ∧ 1 ≤ t.toNat ∧ t.toNat ≤ 7 then some (w.toNat, t.toNat) else none
  | _ => none

/-! ## Replies (R169) -/

/-- Reply statuses (Table 7-4). -/
inductive ReplyStatus where
  | ok | none | late | notHeld | full | notJoined | alreadyJoined | roleTaken | noRole | mode | keyInUse | indexInUse
  | noEntry | sourceBusy | nodeInUse | badArgument | badRequest
  deriving DecidableEq, Repr

/-- Status codes (Table 11-5). -/
def ReplyStatus.byte : ReplyStatus → Byte
  | .ok => 0x00#8
  | .none => 0x01#8
  | .late => 0x02#8
  | .notHeld => 0x03#8
  | .full => 0x04#8
  | .notJoined => 0x05#8
  | .alreadyJoined => 0x06#8
  | .roleTaken => 0x07#8
  | .noRole => 0x08#8
  | .mode => 0x09#8
  | .keyInUse => 0x0A#8
  | .indexInUse => 0x0B#8
  | .noEntry => 0x0C#8
  | .sourceBusy => 0x0D#8
  | .nodeInUse => 0x0E#8
  | .badArgument => 0x0F#8
  | .badRequest => 0x10#8

/-- What an owning block answers: a status, a report, and whether the reply is marked by a RESTART (R145). -/
structure Reply where
  status : ReplyStatus
  report : List Byte := []
  restart : Bool := false
  deriving DecidableEq, Repr

/-- A refusal or an answer with no report (R169). -/
def Reply.bare (st : ReplyStatus) : Reply := { status := st }

/-- An OK reply with its report (R169). -/
def Reply.done (report : List Byte) : Reply := { status := .ok, report }

/-- An index a promotion entry named, with its present flag (Table 11-4, R169). -/
def previousReport (o : Option SourceIx) : List Byte :=
  match o with
  | some i => [1#8, byteOf i.val]
  | none => [0#8, 0#8]

/-! ## Alerts and notices (Table 11-6) -/

/-- Kind byte of a notice. -/
def Notice.kindByte : Notice → Byte
  | .stale _ => 0x01#8
  | .withdrawn _ => 0x02#8
  | .gap _ => 0x03#8
  | .lost _ => 0x04#8
  | .regained _ => 0x05#8
  | .fieldDown => 0x06#8
  | .fieldUp => 0x07#8

/-- Argument byte of a notice. -/
def Notice.argByte : Notice → Byte
  | .stale i => byteOf i.val
  | .withdrawn i => byteOf i.val
  | .gap n => byteOf n.val
  | .lost n => byteOf n.val
  | .regained n => byteOf n.val
  | .fieldDown => 0x00#8
  | .fieldUp => 0x00#8

/-- Payload of a NOTICE (R170). -/
def Notice.payload (n : Notice) (lostBefore : Bool) : List Byte := [n.kindByte, flagByte lostBefore, n.argByte]

end Sys2Proof.Machine
end

