-- ==== Sys2Proof/Machine/Sessions.lean ====
section
/-! DEFINITION. Shared operations of the claim unit: notices, claims, stale marks, grants and the end of a session
(Chapter 4). -/

namespace Sys2Proof.Machine

/-! ## Notices -/

/-- Puts a notice on a list; on a full list it is discarded and the notices-lost flag set (R84). -/
def Agent.putNotice (n : Notice) (a : Agent) : Agent :=
  if a.notices.length < Config.maxNotices then { a with notices := a.notices ++ [n] } else { a with noticesLost := true }

/-- A notice for one agent, whatever its notice flag; a DETACHED agent receives none (R83). -/
def State.notify (s : State) (k : AgentId) (n : Notice) : State :=
  s.modAgent k fun a => if a.attached then a.putNotice n else a

/-- A notice for every attached agent with the notice flag set (R83). -/
def State.notifyFlagged (s : State) (n : Notice) : State :=
  { s with agents := s.agents.map fun a => if a.attached && a.noticeFlag then a.putNotice n else a }

/-! ## Claims -/

/-- The claim of an agent on a source, if it holds one (R71). -/
def Agent.claimOn (a : Agent) (i : SourceIx) : Option Claim := a.claims.find? fun c => decide (c.source = i)

/-- Removes the claim on a source; the claims behind it keep their order (R71). -/
def Agent.dropClaim (i : SourceIx) (a : Agent) : Agent :=
  { a with claims := a.claims.filter fun c => decide (c.source ≠ i) }

/-- Removes the stale mark for a source (R80). -/
def Agent.dropMark (i : SourceIx) (a : Agent) : Agent := { a with marks := a.marks.filter fun m => decide (m ≠ i) }

/-- Adds the newest stale mark, dropping the oldest first when 8 are held (R80). -/
def Agent.addMark (i : SourceIx) (a : Agent) : Agent :=
  { a with marks := (if a.marks.length < Config.maxMarks then a.marks else a.marks.tail) ++ [i] }

/-- Ends a claim without completion: it leaves the list, and the source takes back what the grant consumed (R42). -/
def State.reclaim (s : State) (k : AgentId) (c : Claim) : State :=
  (s.modAgent k (Agent.dropClaim c.source)).changeSource c.source (Source.reclaim c.consumed)

/-- The claim that a grant of source `i`, as it stands, gives an agent (R74, R78). -/
def State.newClaim (s : State) (k : AgentId) (i : SourceIx) (a : Source) : Claim :=
  { source := i, consumed := a.consumed, grant := s.grantNumber,
    deadline := if (s.agent k).serviceLimit = 0#16 then none else some (s.agent k).serviceLimit }

/-- Grants source `i` to agent k: the claim at the tail of the list, the grant number, every stale mark for it removed,
the source HELD, and the re-evaluation (R40, R72, R74). -/
def State.grant (s : State) (k : AgentId) (i : SourceIx) (a : Source) : State :=
  let t : State := { s with agents := s.agents.map (Agent.dropMark i), grantNumber := s.grantNumber + 1#16 }
  (t.modAgent k fun g => { g with claims := g.claims ++ [s.newClaim k i a] }).changeSource i (Source.grant k)

/-! ## Sessions -/

/-- The record at the end of a session, its claims already reclaimed (Table 4-1, R67). -/
def Agent.detach (a : Agent) : Agent :=
  { a with session := .detached, claims := [], marks := [], notices := [], noticesLost := false, alert := false }

/-- Ends the session of agent k: its claims are reclaimed oldest first, its lists and flags cleared, the role freed if
it holds it (R67, R68). -/
def State.endSession (s : State) (k : AgentId) : State :=
  let t := (s.agent k).claims.foldl (fun t c => t.reclaim k c) s
  let u := t.modAgent k Agent.detach
  if u.role = some k then { u with role := none } else u

/-- Ends the session of an agent if it has one (R68). -/
def State.endIfAttached (s : State) (k : AgentId) : State := if (s.agent k).attached then s.endSession k else s

/-- Ends every session, lowest agent number first (R68). -/
def State.endSessions (s : State) : State := (List.finRange 4).foldl State.endIfAttached s

end Sys2Proof.Machine
end

