-- ==== Sys2Proof/Machine/Resync.lean ====
section
/-! DEFINITION. Shared operations of the node table and the resync engine (Chapter 5). -/

namespace Sys2Proof.Machine

open Sys2Proof

/-! ## Transitions and levels from a node -/

/-- A transition of node `n`, channel `c`: applied to the source keyed to it, or counted as unmapped (R95, R119). -/
def State.nodeTransition (s : State) (n : NodeId) (c : Channel) (t : Transition) : State :=
  match s.keyed n c with
  | some i => s.changeSource i (Source.transition t)
  | none => s.modNode n fun r => { r with unmapped := satSucc r.unmapped }

/-- The level of one channel of a node, handed to its source if one is keyed to it (R37, R105). -/
def State.nodeLevel (n : NodeId) (level : Channel → Bool) (s : State) (c : Channel) : State :=
  match s.keyed n c with
  | some i => s.changeSource i (Source.takeLevel (level c))
  | none => s

/-- The levels of a node's channels, in ascending channel order (R105, R124). -/
def State.nodeLevels (s : State) (n : NodeId) (level : Channel → Bool) : State :=
  (List.finRange 16).foldl (State.nodeLevel n level) s

/-! ## Wait list and slots -/

/-- Moves a node to WAITING at the tail of the wait list (R99). -/
def State.enqueue (s : State) (n : NodeId) : State :=
  let t := s.modNode n fun r => { r with state := .waiting }
  { t with waitList := t.waitList ++ [n] }

/-- Takes a node off the wait list and out of its slot, if it is there (R105, R110). -/
def State.releaseNode (s : State) (n : NodeId) : State :=
  { s with waitList := s.waitList.filter fun m => decide (m ≠ n),
           slots := s.slots.map fun o => o.filter fun e => decide (e.node ≠ n) }

/-- A free slot takes the head of the wait list: RESYNCING, attempts used 0, query owed (R100). -/
def State.slotTakes (s : State) (j : SlotId) : State :=
  match s.slots[j], s.waitList with
  | none, n :: rest =>
    let t := s.modNode n fun r => { r with state := .resyncing, attempts := 0 }
    { t with waitList := rest, slots := t.slots.set j (some { node := n, phase := .queryOwed }) }
  | none, [] => s
  | some _, _ => s

/-- In RUN with the field port UP the free slots take the waiting nodes, lowest slot and oldest node first (R100). -/
def State.fillSlots (s : State) : State :=
  if s.mode = .run ∧ s.field.link = .up then (List.finRange 4).foldl State.slotTakes s else s

/-- The slot of a node, if one holds it (R100). -/
def State.slotOf (s : State) (n : NodeId) : Option Slot := (s.slots.toList.filterMap id).find? fun e => decide (e.node = n)

/-- The present field nodes, in ascending node id (R112, R114). -/
def State.fieldNodes (s : State) : List NodeId :=
  (List.finRange 64).filter fun n => decide (n ≠ 0) && (s.node n).isSome

/-! ## Reports -/

/-- Whether a report from a node in this state counts a gap: a difference while it is not LOST (R96, R97, R98). -/
def Node.gapIn (r : Node) (q : Byte) : Bool := decide (r.state ≠ .lost) && decide (q ≠ r.expected)

/-- An EVT of a present node, well-formed, with channel, transition and sequence number (R94 to R98). -/
def State.takeEvt (s : State) (n : NodeId) (r : Node) (c : Channel) (t : Transition) (q : Byte) : State :=
  let s1 := if r.gapIn q then s.modNode n fun x => { x with gaps := satSucc x.gaps } else s
  let s2 := (s1.nodeTransition n c t).modNode n fun x => { x with expected := q + 1#8 }
  match r.state with
  | .synced =>
    if q = r.expected then s2
    else (((s2.enqueue n).markUncertain n true).notifyFlagged (.gap n)).fillSlots
  | .waiting => s2
  | .resyncing => s2
  | .lost => (s2.enqueue n).fillSlots

/-- A STATE of a present node: levels, uncertain flags, expected sequence, SYNCED, what the node held, REGAINED
(R105, R106). -/
def State.takeState (s : State) (n : NodeId) (r : Node) (levels : BitVec 16) (q : Byte) : State :=
  let s1 := (s.nodeLevels n fun c => levels.getLsbD c.val).markUncertain n false
  let s2 := (s1.modNode n fun x => { x with expected := q, state := .synced, wasLost := false }).releaseNode n
  let s3 := if r.wasLost then s2.notifyFlagged (.regained n) else s2
  s3.fillSlots

/-- A node is found lost (R104). -/
def State.nodeLost (s : State) (j : SlotId) (n : NodeId) (r : Node) : State :=
  let s1 := s.modNode n fun x => { x with state := .lost, wasLost := true }
  let s2 : State := { s1 with slots := s1.slots.set j none }
  let s3 := s2.notifyFlagged (.lost n)
  let s4 := match r.lossSource with
    | some i => s3.changeSource i (Source.transition .pulse)
    | none => s3
  s4.fillSlots

/-! ## Link down and resets -/

/-- A field node's record at field link-down: WAITING, everything else kept (R112). -/
def Node.linkDown (r : Node) : Node := { r with state := .waiting }

/-- Field link-down at the node table: slots released, every present field node WAITING, the sources of nodes that
were SYNCED uncertain, the wait list rebuilt in ascending node id (R112). -/
def State.fieldNodesDown (s : State) : State :=
  { s with
    nodes := Vector.ofFn fun n => if n = 0 then s.nodes[n] else (s.nodes[n]).map Node.linkDown
    sources := s.sources.map (Option.map fun a =>
      if a.config.node ≠ 0 ∧ (s.node a.config.node).map Node.state = some .synced then { a with uncertain := true }
      else a)
    slots := Vector.replicate 4 none
    waitList := s.fieldNodes }

/-- A node's record after a warm reset: presence and loss source kept, dynamic fields as R114 gives; node 0 stays
SYNCED. -/
def Node.warm (n : NodeId) (r : Node) : Node :=
  { lossSource := r.lossSource, state := if n = 0 then .synced else .waiting, expected := 0#8, attempts := 0,
    wasLost := false, gaps := 0#16, unmapped := 0#16 }

end Sys2Proof.Machine
end

