-- ==== Sys2Proof/Machine/Contacts.lean ====
section
/-! DEFINITION. The contact input block (Chapter 6): filters, reports, the node-0 refresh, and the sample event. -/

namespace Sys2Proof.Machine

open Sys2Proof

/-- The input is enabled (R116). -/
def Contact.enabled (c : Contact) : Bool := decide (c.filter ≠ .off)

/-- The input is active: SETTLED, with its filtered level seen through invert (R116). -/
def Contact.active (c : Contact) : Bool :=
  match c.filter with
  | .settled level _ => level != c.invert
  | .off => false
  | .opening => false
  | .settling _ _ => false

/-- The input has a decided level (R116). -/
def Contact.decided (c : Contact) : Bool :=
  match c.filter with
  | .settled _ _ => true
  | .off => false
  | .opening => false
  | .settling _ _ => false

/-- The filter state after a sample of the pin (R117, R118). -/
def Contact.sample (pin : Bool) (c : Contact) : Contact :=
  match c.filter with
  | .off => c
  | .opening => { c with filter := .settled pin 0 }
  | .settling runLevel run =>
    let run' := if runLevel = some pin then run + 1 else 1
    if run' = c.length.val + 1 then { c with filter := .settled pin 0 }
    else { c with filter := .settling (some pin) run' }
  | .settled level run =>
    if pin = level then { c with filter := .settled level 0 }
    else if run + 1 = c.length.val + 1 then { c with filter := .settled pin 0 }
    else { c with filter := .settled level (run + 1) }

/-- The report of a change of activity: RAISE when it became active, FALL when it became inactive (R117, R118, R120). -/
def activityReport (before after : Bool) : Option Transition :=
  match before, after with
  | false, true => some .raise
  | true, false => some .fall
  | false, false => none
  | true, true => none

/-- A report of an input: a transition of node 0 in RUN, nothing in STANDBY (R119). -/
def State.contactReport (s : State) (n : Channel) (t : Option Transition) : State :=
  match s.mode, t with
  | .run, some t => s.nodeTransition 0 n t
  | .run, none => s
  | .standby, _ => s

/-- Replaces an input record and makes the report of its change of activity (R117 to R120). -/
def State.changeContact (s : State) (n : Channel) (c : Contact) : State :=
  let t : State := { s with contacts := s.contacts.set n c }
  t.contactReport n (activityReport (s.contacts[n]).active c.active)

/-- The sample event at one input (R117, R118). -/
def State.sampleInput (s : State) (n : Channel) : State :=
  s.changeContact n ((s.contacts[n]).sample (s.pins.cin.getLsbD n.val))

/-- The filter state after a SET-CONTACT (R121, R122). -/
def Contact.refilter (c : Contact) (enabled : Bool) (length : Fin 16) : Filter :=
  match enabled, c.filter with
  | false, _ => .off
  | true, .off => .opening
  | true, .opening => .opening
  | true, .settling runLevel run => if length = c.length then .settling runLevel run else .settling none 0
  | true, .settled level run => if length = c.length then .settled level run else .settled level 0

/-- The record after a SET-CONTACT (R120). -/
def Contact.configure (c : Contact) (a : ContactArgs) : Contact :=
  { invert := a.invert, length := a.length, filter := c.refilter a.enabled a.length }

/-- The report of a SET-CONTACT (Table 11-4). -/
def Contact.report (c : Contact) : List Byte :=
  [flagByte c.enabled, flagByte c.invert, byteOf c.length.val, c.filter.byte, flagByte c.active]

/-- The record a warm reset leaves (R125). -/
def Contact.warm (c : Contact) : Contact :=
  { c with filter := if c.enabled then .settling none 0 else .off }

/-- The refresh of node 0 at RESUME: each channel's level is active when its input is SETTLED and active (R124). -/
def State.refreshNode0 (s : State) : State := s.nodeLevels 0 fun c => (s.contacts[c]).active

/-- SAMPLE_EVENT: the pins are read and every enabled input's filter takes its reading, in ascending input number
(log 17). While RSTn is low the filters are held in their reset state (R147). -/
def execSampleEvent (levels : BitVec 16) (s : State) : Outcome :=
  if s.pins.rstn then
    .next ((List.finRange 16).foldl State.sampleInput { s with pins := { s.pins with cin := levels } })
  else .next s

end Sys2Proof.Machine
end

