-- ==== Sys2Proof/Machine/Requests.lean ====
section
/-! DEFINITION. The request processor's taking of trunk frames: classification, the common checks, the reply
(Sections 7.1 and 7.2), and the rows that concern frames that are no well-formed request. -/

namespace Sys2Proof.Machine

open Sys2Proof

/-- What the processor does with a trunk frame (Table 7-1). -/
inductive TrunkClass where
  | forward (node : NodeId)
  | request (agent : AgentId)
  | foreign
  deriving DecidableEq, Repr

/-- Treatment of a received trunk frame (Table 7-1). -/
def State.classify (s : State) (f : Frame) : TrunkClass :=
  match stationOf f.dest with
  | some n => if f.kind = Config.kindData then .forward n else .foreign
  | none =>
    if f.dest = s.partAddr ∧ f.kind = Config.kindReq then
      match agentOf f.orig with
      | some k => .request k
      | none => .foreign
    else .foreign

/-- The processor may take its oldest frame: the trunk port is UP (R126, R138, R150, log 6), no restart is pending
(R145) and no frame is in hand (R126). -/
def State.processorFree (s : State) : Bool :=
  decide (s.trunk.link = .up) && !s.restartPending && !s.trunk.hold

/-- The oldest trunk frame, when the processor may take it. -/
def State.trunkHead (s : State) : Option Frame := if s.processorFree then s.trunk.rx.head? else none

/-- The request frame at the head and the agent it comes from, when there is room for the reply (R129). -/
def State.requestHead (s : State) : Option (Frame × AgentId) :=
  match s.trunkHead with
  | none => none
  | some f =>
    match s.classify f with
    | .request k => if s.trunk.queue.length < Config.replyThreshold then some (f, k) else none
    | .forward _ => none
    | .foreign => none

/-- The processor has finished with the oldest trunk frame: its buffer is lent again (R126, R152). -/
def State.finishTrunk (s : State) : State := { s with trunk := s.trunk.finishHead }

/-- The reply to a request frame: code as received, status, report (R129, R169). A REQ with LEN 0 is answered with
code 0x00 (R168). -/
def State.replyFrame (s : State) (f : Frame) (r : Reply) : Frame :=
  s.build f.orig Config.kindRsp f.tag (f.payload.headD 0#8 :: r.status.byte :: r.report)

/-- Finishes with the request frame and places its reply, in one act (R126, R129). -/
def State.answer (s : State) (f : Frame) (r : Reply) : State :=
  let t := s.finishTrunk
  { t with trunk := t.trunk.place (s.replyFrame f r) r.restart }

/-- The common checks: the first that fails decides the status (R130, Table 7-2). -/
def State.commonCheck (s : State) (c : ReqCode) (k : AgentId) (args : List Byte) : Option ReplyStatus :=
  if !c.wellFormed args then some .badRequest
  else if c.needsSession && !(s.agent k).attached then some .notJoined
  else if c.needsRole args && decide (s.role ≠ some k) then some .noRole
  else match c.needsMode with
    | some m => if s.mode = m then none else some .mode
    | none => none

/-- Takes a request frame with code `c`: the common checks, then the owning block `own`, then the reply (R129, R130). -/
def State.carryOut (s : State) (c : ReqCode) (own : AgentId → List Byte → State → State × Reply) (f : Frame)
    (k : AgentId) : State :=
  match s.commonCheck c k f.payload.tail with
  | some st => s.answer f (Reply.bare st)
  | none => (own k f.payload.tail s).1.answer f (own k f.payload.tail s).2

/-- A request row: taken when the request at the head carries its code; otherwise there is nothing to take (R126, R129,
log 2). -/
def serve (c : ReqCode) (own : AgentId → List Byte → State → State × Reply) (s : State) : Outcome :=
  match s.requestHead with
  | some (f, k) => if f.payload.head? = some c.byte then .next (s.carryOut c own f k) else .next s
  | none => .next s

/-- The request code of a frame is defined (R131). -/
def Frame.hasCode (f : Frame) : Bool :=
  match f.payload with
  | b :: _ => (ReqCode.of? b).isSome
  | [] => false

/-- UNDEFINED_REQUEST_CODE: a request with an undefined code or LEN 0 is answered BAD_REQUEST (R130, R131, R168). -/
def execUndefinedRequestCode (s : State) : Outcome :=
  match s.requestHead with
  | some (f, _) => if f.hasCode then .next s else .next (s.answer f (Reply.bare .badRequest))
  | none => .next s

/-- FOREIGN_FRAME: dropped and counted (R128, Table 7-1). -/
def execForeignFrame (s : State) : Outcome :=
  match s.trunkHead with
  | some f =>
    match s.classify f with
    | .foreign => .next (s.finishTrunk.count Counters.addForeign)
    | .forward _ => .next s
    | .request _ => .next s
  | none => .next s

/-- TRUNK_DATA_TAKEN: dropped as misdirected when the node is not present, otherwise taken in hand (R127). -/
def execTrunkDataTaken (s : State) : Outcome :=
  match s.trunkHead with
  | some f =>
    match s.classify f with
    | .forward n =>
      if (s.node n).isSome then .next { s with trunk := { s.trunk with hold := true } }
      else .next (s.finishTrunk.count Counters.addMisdirected)
    | .foreign => .next s
    | .request _ => .next s
  | none => .next s

/-- The trunk DATA frame in hand, if there is one (R127). -/
def Line.inHand (l : Line) : Option Frame := if l.hold then l.rx.head? else none

/-- TRUNK_DATA_PLACED: the frame in hand enters the field transmit queue, unchanged, while that holds fewer than 12
(R127). -/
def execTrunkDataPlaced (s : State) : Outcome :=
  match s.trunk.inHand with
  | some f =>
    if s.field.queue.length < Config.trunkDataThreshold then
      .next { s.finishTrunk with field := s.field.place f }
    else .next s
  | none => .next s

end Sys2Proof.Machine
end

