-- ==== Sys2Proof/Machine/ClaimUnit.lean ====
section
/-! DEFINITION. The requests the claim unit owns (Chapters 3 and 4), the expiry of a service timer and the move of a
notice. -/

namespace Sys2Proof.Machine

open Sys2Proof

/-! ## Sessions and the mask -/

/-- The record of an accepted JOIN, before its attention is evaluated (Table 4-1, R65). -/
def Agent.joined (a : JoinArgs) : Agent :=
  { Agent.afterReset with session := .attached, mask := a.mask, serviceLimit := a.serviceLimit, noticeFlag := a.noticeFlag }

/-- The role after a JOIN of agent k: given when asked for and free (R66, R133). -/
def State.roleAfterJoin (s : State) (k : AgentId) (a : JoinArgs) : Option AgentId :=
  if a.wantRole && s.role.isNone then some k else s.role

/-- Status of an accepted JOIN (R66). -/
def State.joinStatus (s : State) (k : AgentId) (a : JoinArgs) : ReplyStatus :=
  if a.wantRole && decide (s.roleAfterJoin k a ≠ some k) then .roleTaken else .ok

/-- JOIN at the claim unit (R65, R66). -/
def joinAct (k : AgentId) (args : List Byte) (s : State) : State × Reply :=
  if (s.agent k).attached then (s, Reply.bare .alreadyJoined)
  else
    match joinArgs args with
    | none => (s, Reply.bare .badArgument)
    | some a =>
      let t := { s with role := s.roleAfterJoin k a }.setAgent k (Agent.joined a)
      (t.reEvaluate k,
        { status := s.joinStatus k a, report := [s.mode.byte, flagByte s.retained, flagByte (decide (t.role = some k))] })

/-- LEAVE at the claim unit (R67). -/
def leaveAct (k : AgentId) (_args : List Byte) (s : State) : State × Reply :=
  (s.endSession k, Reply.done [byteOf (s.agent k).claims.length])

/-- SET-MASK at the claim unit (R69). -/
def setMaskAct (k : AgentId) (args : List Byte) (s : State) : State × Reply :=
  match maskArg args with
  | none => (s, Reply.bare .badArgument)
  | some m =>
    let t := (s.modAgent k fun a => { a with mask := m }).reEvaluate k
    (t, Reply.done [byteOf (t.attention k).val])

/-- The report of READ-AGENT (R70, R169). -/
def State.agentReport (s : State) (j : AgentId) : List Byte :=
  let a := s.agent j
  [a.session.byte, flagByte (decide (s.role = some j)), byteOf a.mask.val] ++ halfBytes a.serviceLimit ++
    [flagByte a.noticeFlag, byteOf a.notices.length, flagByte a.noticesLost, flagByte a.alert, byteOf a.lastSent.val,
     byteOf (s.attention j).val] ++ halfBytes a.reclaims ++
    byteOf a.claims.length :: a.claims.flatMap (fun c => [byteOf c.source.val, c.consumed.byte]) ++
    byteOf a.marks.length :: a.marks.map fun i => byteOf i.val

/-- READ-AGENT at the claim unit (R70). -/
def readAgentAct (_k : AgentId) (args : List Byte) (s : State) : State × Reply :=
  match agentArg args with
  | none => (s, Reply.bare .badArgument)
  | some j => (s, Reply.done (s.agentReport j))

/-! ## CLAIM, PEEK and DONE -/

/-- The report of a CLAIM that grants `i`, a source as it stands before the grant (R74, Table 11-4). -/
def State.claimReport (s : State) (i : SourceIx) (a : Source) : List Byte :=
  [byteOf i.val, byteOf a.config.node.val, byteOf a.config.channel.val, byteOf (s.effectiveRank i a).val] ++
    halfBytes s.grantNumber ++
    [a.consumed.byte, a.merge, { a.reasons with edgeOwed := false, latched := false : Reasons }.byte, flagByte a.uncertain]

/-- CLAIM at the claim unit: range, list size, choice, grant (R73, R74). -/
def claimAct (k : AgentId) (args : List Byte) (s : State) : State × Reply :=
  match rangeArgs args with
  | none => (s, Reply.bare .badArgument)
  | some (floor, ceiling) =>
    if Config.maxClaims ≤ (s.agent k).claims.length then (s, Reply.bare .full)
    else
      match s.best (s.eligible k floor ceiling) with
      | none => (s, Reply.bare .none)
      | some (i, a) => (s.grant k i a, Reply.done (s.claimReport i a))

/-- PEEK at the claim unit (R75). -/
def peekAct (k : AgentId) (args : List Byte) (s : State) : State × Reply :=
  match rangeArgs args with
  | none => (s, Reply.bare .badArgument)
  | some (floor, ceiling) =>
    match s.best (s.eligible k floor ceiling) with
    | none => (s, Reply.bare .none)
    | some (i, a) =>
      (s, Reply.done [byteOf i.val, byteOf a.config.node.val, byteOf a.config.channel.val,
        byteOf (s.effectiveRank i a).val])

/-- The state byte of the source at an index; IDLE's for a vacant index, which no caller asks about. -/
def State.statusByte (s : State) (i : SourceIx) : Byte :=
  match s.source i with
  | some a => a.status.byte
  | none => Status.idle.byte

/-- DONE at the claim unit: the claim list first, then the stale marks (R76, R77). -/
def doneAct (k : AgentId) (args : List Byte) (s : State) : State × Reply :=
  match indexArg args with
  | none => (s, Reply.bare .badRequest)
  | some i =>
    match (s.agent k).claimOn i with
    | some _ =>
      let t := (s.modAgent k (Agent.dropClaim i)).changeSource i Source.complete
      (t, Reply.done [t.statusByte i])
    | none => if i ∈ (s.agent k).marks then (s, Reply.bare .late) else (s, Reply.bare .notHeld)

/-! ## The promotion table -/

/-- Sets a promotion entry. -/
def State.setPromotion (s : State) (p : PromoSlot) (o : Option SourceIx) : State :=
  { s with promotion := s.promotion.set p o }

/-- PUT-PROMOTION at the claim unit, with the checks of R53 in order. -/
def putPromotionAct (_k : AgentId) (args : List Byte) (s : State) : State × Reply :=
  match promoArgs args with
  | none => (s, Reply.bare .badArgument)
  | some (p, i) =>
    match s.source i with
    | none => (s, Reply.bare .noEntry)
    | some a =>
      if a.config.rank = 0 ∨ a.config.rank = 7 then (s, Reply.bare .badArgument)
      else if (List.finRange 4).any fun q => decide (q ≠ p ∧ s.promotion[q] = some i) then (s, Reply.bare .keyInUse)
      else ((s.setPromotion p (some i)).reEvaluateAll, Reply.done (previousReport s.promotion[p]))

/-- CLEAR-PROMOTION at the claim unit (R55). -/
def clearPromotionAct (_k : AgentId) (args : List Byte) (s : State) : State × Reply :=
  match slotArg args with
  | none => (s, Reply.bare .badArgument)
  | some p => ((s.setPromotion p none).reEvaluateAll, Reply.done (previousReport s.promotion[p]))

/-! ## The rows -/

/-- JOIN (R65). -/
def execJoin (s : State) : Outcome := serve .join joinAct s
/-- LEAVE (R67). -/
def execLeave (s : State) : Outcome := serve .leave leaveAct s
/-- SET_MASK (R69). -/
def execSetMask (s : State) : Outcome := serve .setMask setMaskAct s
/-- READ_AGENT (R70). -/
def execReadAgent (s : State) : Outcome := serve .readAgent readAgentAct s
/-- CLAIM (R73). -/
def execClaim (s : State) : Outcome := serve .claim claimAct s
/-- PEEK (R75). -/
def execPeek (s : State) : Outcome := serve .peek peekAct s
/-- DONE (R76). -/
def execDone (s : State) : Outcome := serve .done doneAct s
/-- PUT_PROMOTION (R53). -/
def execPutPromotion (s : State) : Outcome := serve .putPromotion putPromotionAct s
/-- CLEAR_PROMOTION (R55). -/
def execClearPromotion (s : State) : Outcome := serve .clearPromotion clearPromotionAct s

/-- The expiry of a claim: reclaim, stale mark, reclaim count, STALE notice (R79). -/
def State.expire (s : State) (k : AgentId) (c : Claim) : State :=
  ((s.reclaim k c).modAgent k fun a => { a.addMark c.source with reclaims := satSucc a.reclaims }).notify k
    (.stale c.source)

/-- SERVICE_TIMER_EXPIRY: only a claim with a deadline has a timer (R78, R79). -/
def execServiceTimerExpiry (agent index : Nat) (s : State) : Outcome :=
  if hk : agent < 4 then
    if hi : index < 256 then
      match (s.agent ⟨agent, hk⟩).claimOn ⟨index, hi⟩ with
      | some c => if c.deadline.isSome then .next (s.expire ⟨agent, hk⟩ c) else .next s
      | none => .next s
    else .refused .noSuchOperand
  else .refused .noSuchOperand

/-- The lowest-numbered agent whose notice list is not empty (R85, log 7). -/
def State.noticeReady (s : State) : Option AgentId := (List.finRange 4).find? fun k => !(s.agent k).notices.isEmpty

/-- MOVE_NOTICE: the head of a notice list becomes a NOTICE frame at the tail of the trunk transmit queue while that
holds fewer than 30 frames (R85, R170). -/
def execMoveNotice (s : State) : Outcome :=
  if s.trunk.queue.length < Config.noticeThreshold then
    match s.noticeReady with
    | none => .next s
    | some k =>
      match (s.agent k).notices with
      | [] => .next s
      | n :: rest =>
        let f := s.build (agentStation k) Config.kindNotice 0#8 (n.payload (s.agent k).noticesLost)
        .next ({ s with trunk := s.trunk.place f }.modAgent k fun a => { a with notices := rest, noticesLost := false })
  else .next s

end Sys2Proof.Machine
end

