-- ==== Sys2Proof/Machine/SourceTable.lean ====
section
/-! DEFINITION. The requests the source table owns (Chapters 1 and 2). -/

namespace Sys2Proof.Machine

open Sys2Proof

/-! ## PUT-SOURCE -/

/-- The asserted flag a new source begins with: the level of its contact when its node is 0, the part is in RUN and
the level is decided; otherwise clear (R7). -/
def State.firstLevel (s : State) (g : SourceConfig) : Bool :=
  decide (g.node = 0) && decide (s.mode = .run) && (s.contacts[g.channel]).active

/-- A newly loaded source (R7). -/
def State.newSource (s : State) (g : SourceConfig) (r : Node) : Source :=
  Source.settle
    { config := g, status := .idle, uncertain := decide (r.state ≠ .synced), merge := 0#8,
      reasons := { edgeOwed := false, latched := false, asserted := s.firstLevel g, forced := false } }

/-- A loaded source updated with a new configuration; a class change sets the merge count to 0 and evaluates the
pending condition (R10, R11). -/
def Source.update (g : SourceConfig) (a : Source) : Source :=
  if a.config.cls = g.cls then { a with config := g }
  else Source.settle { a with config := g, merge := 0#8 }

/-- Loads a vacant index (R8 steps 4 and 5, R9). -/
def State.loadSource (s : State) (i : SourceIx) (g : SourceConfig) : State × Reply :=
  match s.node g.node with
  | none => (s, Reply.bare .noEntry)
  | some r =>
    if g.rank = 7 ∧ g.cls ≠ .edge then (s, Reply.bare .badArgument)
    else ((s.setSource i (some (s.newSource g r))).reEvaluateAll, Reply.done [0x00#8])

/-- Updates a loaded index (R8 steps 4 to 7, R10). -/
def State.updateSource (s : State) (i : SourceIx) (g : SourceConfig) (a : Source) : State × Reply :=
  if (s.node g.node).isNone then (s, Reply.bare .noEntry)
  else if g.rank = 7 ∧ g.cls ≠ .edge then (s, Reply.bare .badArgument)
  else if g.cls ≠ a.config.cls ∧ a.status ≠ .idle then (s, Reply.bare .sourceBusy)
  else if g.rank = 7 ∧ (s.promoSlot i).isSome then (s, Reply.bare .badArgument)
  else ((s.setSource i (some (a.update g))).reEvaluateAll, Reply.done [0x01#8])

/-- Another loaded index holds the key of a configuration (R8 step 3). -/
def State.keyElsewhere (s : State) (i : SourceIx) (g : SourceConfig) : Bool :=
  s.loaded.any fun p => decide (p.1 ≠ i ∧ p.2.config.node = g.node ∧ p.2.config.channel = g.channel)

/-- PUT-SOURCE at the source table, with the checks of R8 in order. -/
def putSourceAct (_k : AgentId) (args : List Byte) (s : State) : State × Reply :=
  match sourceArgs args with
  | none => (s, Reply.bare .badArgument)
  | some (i, g) =>
    match s.source i with
    | some a =>
      if a.config.node ≠ g.node ∨ a.config.channel ≠ g.channel then (s, Reply.bare .indexInUse)
      else if s.keyElsewhere i g then (s, Reply.bare .keyInUse)
      else s.updateSource i g a
    | none => if s.keyElsewhere i g then (s, Reply.bare .keyInUse) else s.loadSource i g

/-! ## DROP-SOURCE, BLOCK and UNBLOCK -/

/-- The claim on a dropped HELD source is withdrawn: it leaves the holder's list and a WITHDRAWN notice is put (R14). -/
def State.withdraw (s : State) (i : SourceIx) (a : Source) : State :=
  match a.status with
  | .held k => (s.modAgent k (Agent.dropClaim i)).notify k (.withdrawn i)
  | .idle => s
  | .pending => s

/-- Empties every promotion entry that names an index (R15). -/
def State.unpromote (s : State) (i : SourceIx) : State :=
  { s with promotion := s.promotion.map fun o => if o = some i then none else o }

/-- DROP-SOURCE at the source table (R13 to R15). -/
def dropSourceAct (_k : AgentId) (args : List Byte) (s : State) : State × Reply :=
  match indexArg args with
  | none => (s, Reply.bare .badRequest)
  | some i =>
    match s.source i with
    | none => (s, Reply.bare .noEntry)
    | some a =>
      ((((s.setSource i none).unpromote i).withdraw i a).reEvaluateAll, Reply.done [a.status.byte])

/-- Sets the blocked flag of a loaded source, with a re-evaluation when it changed (R18, R19). -/
def State.setBlocked (s : State) (i : SourceIx) (b : Bool) (a : Source) : State :=
  let t := s.setSource i (some { a with config := { a.config with blocked := b } })
  if a.config.blocked = b then t else t.reEvaluateAll

/-- BLOCK at the source table (R18). -/
def blockAct (_k : AgentId) (args : List Byte) (s : State) : State × Reply :=
  match indexArg args with
  | none => (s, Reply.bare .badRequest)
  | some i =>
    match s.source i with
    | none => (s, Reply.bare .noEntry)
    | some a => (s.setBlocked i true a, Reply.done [])

/-- UNBLOCK at the source table (R19). -/
def unblockAct (_k : AgentId) (args : List Byte) (s : State) : State × Reply :=
  match indexArg args with
  | none => (s, Reply.bare .badRequest)
  | some i =>
    match s.source i with
    | none => (s, Reply.bare .noEntry)
    | some a => (s.setBlocked i false a, Reply.done [])

/-! ## READ-SOURCE, FORCE and RELEASE -/

/-- Holder and grant number of a report: 0xFF and 0 when the source is not HELD (R20, R169). -/
def State.holderReport (s : State) (i : SourceIx) (a : Source) : List Byte :=
  match a.status with
  | .held k =>
    byteOf k.val :: halfBytes (match (s.agent k).claimOn i with
      | some c => c.grant
      | none => 0#16)
  | .idle => Config.noneByte :: halfBytes 0#16
  | .pending => Config.noneByte :: halfBytes 0#16

/-- The report of READ-SOURCE (R20, Table 11-4). -/
def State.sourceReport (s : State) (i : SourceIx) (a : Source) : List Byte :=
  [byteOf a.config.node.val, byteOf a.config.channel.val, a.config.cls.byte, a.config.trigger.byte,
   byteOf a.config.rank.val, byteOf a.config.order.val, a.config.route.setWidth 8, flagByte a.config.blocked,
   optByte (s.promoSlot i), a.status.byte] ++ s.holderReport i a ++ [a.reasons.byte, flagByte a.uncertain, a.merge]

/-- READ-SOURCE at the source table (R20). -/
def readSourceAct (_k : AgentId) (args : List Byte) (s : State) : State × Reply :=
  match indexArg args with
  | none => (s, Reply.bare .badRequest)
  | some i =>
    match s.source i with
    | none => (s, Reply.bare .noEntry)
    | some a => (s, Reply.done (s.sourceReport i a))

/-- FORCE at the source table (R38). -/
def forceAct (_k : AgentId) (args : List Byte) (s : State) : State × Reply :=
  match indexArg args with
  | none => (s, Reply.bare .badRequest)
  | some i =>
    match s.source i with
    | none => (s, Reply.bare .noEntry)
    | some a => (s.changeSource i (Source.setForced true), Reply.done [(a.setForced true).status.byte])

/-- RELEASE at the source table (R39). -/
def releaseAct (_k : AgentId) (args : List Byte) (s : State) : State × Reply :=
  match indexArg args with
  | none => (s, Reply.bare .badRequest)
  | some i =>
    match s.source i with
    | none => (s, Reply.bare .noEntry)
    | some a => (s.changeSource i (Source.setForced false), Reply.done [(a.setForced false).status.byte])

/-! ## The rows -/

/-- PUT_SOURCE (R8). -/
def execPutSource (s : State) : Outcome := serve .putSource putSourceAct s
/-- DROP_SOURCE (R13). -/
def execDropSource (s : State) : Outcome := serve .dropSource dropSourceAct s
/-- BLOCK (R18). -/
def execBlock (s : State) : Outcome := serve .block blockAct s
/-- UNBLOCK (R19). -/
def execUnblock (s : State) : Outcome := serve .unblock unblockAct s
/-- READ_SOURCE (R20). -/
def execReadSource (s : State) : Outcome := serve .readSource readSourceAct s
/-- FORCE (R38). -/
def execForce (s : State) : Outcome := serve .force forceAct s
/-- RELEASE (R39). -/
def execRelease (s : State) : Outcome := serve .release releaseAct s

end Sys2Proof.Machine
end

