-- ==== Sys2Proof/Machine/NodeTable.lean ====
section
/-! DEFINITION. The requests the node table owns (Section 5.6), the placing of a query and the expiry of a wait timer. -/

namespace Sys2Proof.Machine

open Sys2Proof

/-- The record PUT-NODE creates (R109). -/
def Node.created (o : Option SourceIx) : Node :=
  { lossSource := o, state := .waiting, expected := 0#8, attempts := 0, wasLost := false, gaps := 0#16,
    unmapped := 0#16 }

/-- PUT-NODE at the node table (R109). -/
def putNodeAct (_k : AgentId) (args : List Byte) (s : State) : State × Reply :=
  match putNodeArgs args with
  | none => (s, Reply.bare .badArgument)
  | some (n, o) =>
    match s.node n with
    | some r => (s.setNode n (some { r with lossSource := o }), Reply.done [0x01#8])
    | none => (((s.setNode n (some (Node.created o))).enqueue n).fillSlots, Reply.done [0x00#8])

/-- DROP-NODE at the node table, with the checks of R110 in order. -/
def dropNodeAct (_k : AgentId) (args : List Byte) (s : State) : State × Reply :=
  match fieldNodeArg args with
  | none => (s, Reply.bare .badArgument)
  | some n =>
    match s.node n with
    | none => (s, Reply.bare .noEntry)
    | some r =>
      if s.keyedCount n ≠ 0 then (s, Reply.bare .nodeInUse)
      else (((s.releaseNode n).setNode n none).fillSlots, Reply.done [r.state.byte])

/-- Position of a WAITING node on the wait list, 1 for the oldest; 0 when it does not apply (R99, R169). -/
def State.waitPosition (s : State) (n : NodeId) (r : Node) : Nat :=
  if r.state = .waiting then
    match s.waitList.findIdx? fun m => decide (m = n) with
    | some p => p + 1
    | none => 0
  else 0

/-- The slot phase of a RESYNCING node; none when it does not apply (R111, R169). -/
def State.phaseByte (s : State) (n : NodeId) (r : Node) : Byte :=
  if r.state = .resyncing then
    match s.slotOf n with
    | some e => e.phase.byte
    | none => 0#8
  else 0#8

/-- The report of READ-NODE (R111, Table 11-4). -/
def State.nodeReport (s : State) (n : NodeId) (r : Node) : List Byte :=
  [r.state.byte, byteOf (s.waitPosition n r), s.phaseByte n r, r.expected, byteOf r.attempts, flagByte r.wasLost] ++
    previousReport r.lossSource ++ halfBytes r.gaps ++ halfBytes r.unmapped ++ [byteOf (s.keyedCount n)]

/-- READ-NODE at the node table: the counts are cleared after the report when the clear option is set (R111). -/
def readNodeAct (_k : AgentId) (args : List Byte) (s : State) : State × Reply :=
  match readNodeArgs args with
  | none => (s, Reply.bare .badArgument)
  | some (n, clear) =>
    match s.node n with
    | none => (s, Reply.bare .noEntry)
    | some r =>
      (if clear then s.setNode n (some { r with gaps := 0#16, unmapped := 0#16 }) else s,
        Reply.done (s.nodeReport n r))

/-- PUT_NODE (R109). -/
def execPutNode (s : State) : Outcome := serve .putNode putNodeAct s
/-- DROP_NODE (R110). -/
def execDropNode (s : State) : Outcome := serve .dropNode dropNodeAct s
/-- READ_NODE (R111). -/
def execReadNode (s : State) : Outcome := serve .readNode readNodeAct s

/-- The slot owes a query (R100). -/
def Slot.owes (e : Slot) : Bool := decide (e.phase = .queryOwed)

/-- The lowest-numbered slot that owes a query (R101). -/
def State.owingSlot (s : State) : Option SlotId := (List.finRange 4).find? fun j => (s.slots[j]).any Slot.owes

/-- PLACE_SYNCQ: the lowest slot that owes a query places a SYNCQ while the field transmit queue holds fewer than 16
frames (R101). -/
def execPlaceSyncq (s : State) : Outcome :=
  if s.field.queue.length < Config.queryThreshold then
    match s.owingSlot with
    | none => .next s
    | some j =>
      match s.slots[j] with
      | none => .next s
      | some e =>
        .next { s with
          field := s.field.place (s.build (byteOf e.node.val) Config.kindSyncq 0#8 [])
          slots := s.slots.set j (some { e with phase := .queryQueued }) }
  else .next s

/-- The wait timer of slot j expires: a further query, or the node is lost (R103). -/
def State.waitExpiry (s : State) (j : SlotId) : State :=
  match s.slots[j] with
  | none => s
  | some e =>
    match e.phase, s.node e.node with
    | .waiting _, some r =>
      if r.attempts < s.resyncTries then { s with slots := s.slots.set j (some { e with phase := .queryOwed }) }
      else s.nodeLost j e.node r
    | .waiting _, none => s
    | .queryOwed, _ => s
    | .queryQueued, _ => s

/-- RESYNC_WAIT_EXPIRY: a slot whose timer does not run has no expiry (R103). -/
def execResyncWaitExpiry (slot : Nat) (s : State) : Outcome :=
  if h : slot < 4 then .next (s.waitExpiry ⟨slot, h⟩) else .refused .noSuchOperand

end Sys2Proof.Machine
end

