-- ==== Sys2Proof/Machine/PartControl.lean ====
section
/-! DEFINITION. The requests of the contact input block and of the request processor itself: SET-CONTACT, SET-TIMING,
READ-PART, RESUME and RESTART (R120, R135, R137, R143, R145). -/

namespace Sys2Proof.Machine

open Sys2Proof

/-- SET-CONTACT at the contact input block (R120 to R122). -/
def setContactAct (_k : AgentId) (args : List Byte) (s : State) : State × Reply :=
  match contactArgs args with
  | none => (s, Reply.bare .badArgument)
  | some a =>
    let c := (s.contacts[a.input]).configure a
    (s.changeContact a.input c, Reply.done c.report)

/-- SET-TIMING at the request processor (R135). -/
def setTimingAct (_k : AgentId) (args : List Byte) (s : State) : State × Reply :=
  match timingArgs args with
  | none => (s, Reply.bare .badArgument)
  | some (w, t) => ({ s with resyncWait := w, resyncTries := t }, Reply.done [byteOf w, byteOf t])

/-- The part counters in the order of Table 7-5, two bytes each (R169). -/
def Counters.bytes (c : Counters) : List Byte :=
  halfBytes c.trunkChecks ++ halfBytes c.fieldChecks ++ halfBytes c.foreign ++ halfBytes c.stray ++
    halfBytes c.misdirected ++ halfBytes c.droppedToTrunk ++ halfBytes c.flushed

/-- The report of READ-PART (R137, R169). -/
def State.partReport (s : State) : List Byte :=
  [s.mode.byte, flagByte s.retained, optByte s.role, Config.revisionCode, s.partAddr, byteOf s.resyncWait,
   byteOf s.resyncTries] ++ s.counters.bytes

/-- READ-PART at the request processor: the counters are cleared after the report when the clear option is set (R137). -/
def readPartAct (_k : AgentId) (args : List Byte) (s : State) : State × Reply :=
  (if args = [1#8] then { s with counters := Counters.zero } else s, Reply.done s.partReport)

/-- The field port lends its eight buffers at RESUME, with a CREDIT for each (R143, R152). -/
def State.lendField (s : State) : State :=
  { s with field := Line.sendCredits { s.field with creditGiven := Config.receiveBuffers } Config.receiveBuffers }

/-- RESUME at the request processor: RUN, the node-0 refresh, the field buffers lent, the slots filled (R143). -/
def resumeAct (_k : AgentId) (_args : List Byte) (s : State) : State × Reply :=
  let t := ({ s with mode := .run, retained := false }.refreshNode0.lendField).fillSlots
  (t, Reply.done [t.mode.byte, flagByte t.retained])

/-- RESTART at the request processor: its reply is marked, and restart pending stands while that reply is queued (R145). -/
def restartAct (_k : AgentId) (_args : List Byte) (s : State) : State × Reply :=
  (s, { status := .ok, report := [s.mode.byte], restart := true })

/-- SET_CONTACT (R120). -/
def execSetContact (s : State) : Outcome := serve .setContact setContactAct s
/-- SET_TIMING (R135). -/
def execSetTiming (s : State) : Outcome := serve .setTiming setTimingAct s
/-- READ_PART (R137). -/
def execReadPart (s : State) : Outcome := serve .readPart readPartAct s
/-- RESUME (R143). -/
def execResume (s : State) : Outcome := serve .resume resumeAct s
/-- RESTART (R145). -/
def execRestart (s : State) : Outcome := serve .restart restartAct s

end Sys2Proof.Machine
end

