-- ==== Sys2Proof/Machine/FieldIntake.lean ====
section
/-! DEFINITION. The field intake (Section 10.1). -/

namespace Sys2Proof.Machine

open Sys2Proof

/-- The intake may take its oldest frame: the part is in RUN (R159), the field port is UP (R159, log 6) and no frame is
in hand. -/
def State.intakeFree (s : State) : Bool :=
  decide (s.mode = .run) && decide (s.field.link = .up) && !s.field.hold

/-- The oldest field frame, when the intake may take it and it has this kind (R159). -/
def State.fieldHead (s : State) (kind : Byte) : Option Frame :=
  if s.intakeFree then s.field.rx.head?.filter fun f => decide (f.kind = kind) else none

/-- The intake has finished with the oldest field frame: its buffer is lent again (R159, R152). -/
def State.finishField (s : State) : State := { s with field := s.field.finishHead }

/-- The oldest field frame is dropped and counted as a stray (R136). -/
def State.dropStray (s : State) : State := s.finishField.count Counters.addStray

/-- EVT: malformed, or from no present field node, it is a stray; otherwise the node table takes it (R94, R167). -/
def execEvt (s : State) : Outcome :=
  match s.fieldHead Config.kindEvt with
  | none => .next s
  | some f =>
    match evtOf f.payload, s.fieldNode f.orig with
    | some (c, t, q), some n =>
      match s.node n with
      | some r => .next (s.finishField.takeEvt n r c t q)
      | none => .next s.dropStray
    | some _, none => .next s.dropStray
    | none, _ => .next s.dropStray

/-- STATE: malformed, or from no present field node, it is a stray; otherwise the node table takes it (R105, R106,
R167). -/
def execState (s : State) : Outcome :=
  match s.fieldHead Config.kindState with
  | none => .next s
  | some f =>
    match stateOf f.payload, s.fieldNode f.orig with
    | some (levels, q), some n =>
      match s.node n with
      | some r => .next (s.finishField.takeState n r levels q)
      | none => .next s.dropStray
    | some _, none => .next s.dropStray
    | none, _ => .next s.dropStray

/-- FIELD_DATA_TAKEN: a stray, dropped while the trunk port is not UP, or taken in hand (R160). -/
def execFieldDataTaken (s : State) : Outcome :=
  match s.fieldHead Config.kindData with
  | none => .next s
  | some f =>
    if (s.fieldNode f.orig).isNone then .next s.dropStray
    else if s.trunk.link = .up then .next { s with field := { s.field with hold := true } }
    else .next (s.finishField.count Counters.addDropped)

/-- FIELD_DATA_PLACED: the frame in hand enters the trunk transmit queue, unchanged, while that holds fewer than 20
(R160). -/
def execFieldDataPlaced (s : State) : Outcome :=
  match s.field.inHand with
  | some f =>
    if s.trunk.queue.length < Config.fieldDataThreshold then .next { s.finishField with trunk := s.trunk.place f }
    else .next s
  | none => .next s

/-- STRAY_FRAME: a frame of any other kind is dropped and counted (R159). -/
def execStrayFrame (s : State) : Outcome :=
  if s.intakeFree then
    match s.field.rx with
    | [] => .next s
    | f :: _ =>
      if f.kind = Config.kindEvt ∨ f.kind = Config.kindState ∨ f.kind = Config.kindData then .next s
      else .next s.dropStray
  else .next s

end Sys2Proof.Machine
end

