-- ==== Sys2Proof/Machine/Resets.lean ====
section
/-! DEFINITION. Warm reset, power-on and the end of a reset (Chapter 8, R158). -/

namespace Sys2Proof.Machine

open Sys2Proof

/-- What a warm reset leaves: configuration kept, everything in flight discarded, both ports DOWN (R147, Table 8-1). -/
def State.warmReset (s : State) : State :=
  { s with
    mode := .standby
    retained := true
    role := none
    counters := Counters.zero
    sources := s.sources.map (Option.map Source.warm)
    agents := Vector.replicate 4 Agent.afterReset
    grantNumber := 0#16
    nodes := Vector.ofFn fun n => (s.nodes[n]).map (Node.warm n)
    waitList := s.fieldNodes
    slots := Vector.replicate 4 none
    contacts := s.contacts.map Contact.warm
    trunk := s.trunk.reset
    field := s.field.reset }

/-- What a power-on reset leaves (R148). The commands waiting and the record of what the ports have sent are the
model's own and stay (log 8). -/
def State.powerOnReset (s : State) : State :=
  { State.reset with pending := s.pending, trunk := s.trunk.reset, field := s.field.reset }

/-- The straps are read (R155). -/
def State.readStraps (s : State) (v : BitVec 3) : State := { s with straps := v, pins := { s.pins with straps := v } }

/-- A port in DOWN leaves it for the quiet phase (R158). -/
def Line.leaveDown (l : Line) (given : Nat) : Line := if l.link = .down then l.enterQuiet given else l

/-- A reset ends: the straps are read and both ports begin training (R155, R158). -/
def State.endReset (s : State) (v : BitVec 3) : State :=
  let t := s.readStraps v
  { t with trunk := t.trunk.leaveDown Config.receiveBuffers, field := t.field.leaveDown t.fieldGiven }

/-- Sets the RSTn pin. -/
def State.driveRstn (s : State) (high : Bool) : State := { s with pins := { s.pins with rstn := high } }

/-- WARM_RESET: RSTn is driven low; the part stays in reset until RESET_END (R147, log 19). -/
def execWarmReset (s : State) : Outcome := .next (s.warmReset.driveRstn false)

/-- RESET_END: RSTn returns high (R147, R158). While it is high already there is nothing to end (log 19). -/
def execResetEnd (v : BitVec 3) (s : State) : Outcome :=
  if s.pins.rstn then .next s else .next ((s.driveRstn true).endReset v)

/-- POWER_ON: the power-on reset; the straps are read. With RSTn high the reset ends here; with RSTn low it holds until
RESET_END (R148, R155, R158, log 5). -/
def execPowerOn (v : BitVec 3) (rstn : Bool) (s : State) : Outcome :=
  if rstn then .next ((s.powerOnReset.driveRstn true).endReset v) else .next (s.powerOnReset.readStraps v)

end Sys2Proof.Machine
end

