-- ==== Sys2Proof/Machine/LinePorts.lean ====
section
/-! DEFINITION. The transmitters and the events of the line ports (Chapters 9 and 10). -/

namespace Sys2Proof.Machine

open Sys2Proof

/-! ## Transmitters -/

/-- Serves the set alert flags of a list of agents in order until one gives an ALERT: the flag is cleared, and a rank
equal to the last sent rank gives no frame (R88, R163). -/
def State.serveAlerts (s : State) : List AgentId → State × Option Frame
  | [] => (s, none)
  | k :: ks =>
    if (s.agent k).alert then
      if s.attention k = (s.agent k).lastSent then (s.modAgent k fun a => { a with alert := false }).serveAlerts ks
      else
        (s.modAgent k fun a => { a with alert := false, lastSent := s.attention k },
          some (s.build (agentStation k) Config.kindAlert 0#8 [byteOf (s.attention k).val]))
    else s.serveAlerts ks

/-- TRUNK_TRANSMITTER: a waiting alert first, lowest agent first, otherwise the head of the queue (R163). -/
def execTrunkTransmitter (s : State) : Outcome :=
  if s.trunk.canSend then
    match s.serveAlerts (List.finRange 4) with
    | (t, some f) => .next { t with trunk := t.trunk.begin (.alert f) }
    | (t, none) =>
      if t.trunk.queue.isEmpty then .next t else .next { t with trunk := t.trunk.begin .head }
  else .next s

/-- FIELD_TRANSMITTER: the head of the field transmit queue (R164). -/
def execFieldTransmitter (s : State) : Outcome :=
  if s.field.canSend && !s.field.queue.isEmpty then .next { s with field := s.field.begin .head } else .next s

/-! ## A frame transmitted -/

/-- The slot that waits for the transmission of a query to this station (R102). -/
def Slot.queuedTo (dest : Byte) (e : Slot) : Bool :=
  decide (byteOf e.node.val = dest) && decide (e.phase = .queryQueued)

/-- A SYNCQ has been transmitted: the slot that holds the node in query queued counts the attempt and starts its wait
timer; with no such slot the transmission starts nothing (R102). -/
def State.queryTransmitted (s : State) (dest : Byte) : State :=
  match (List.finRange 4).find? fun j => (s.slots[j]).any (Slot.queuedTo dest) with
  | none => s
  | some j =>
    match s.slots[j] with
    | none => s
    | some e =>
      { s.modNode e.node (fun r => { r with attempts := r.attempts + 1 }) with
        slots := s.slots.set j (some { e with phase := .waiting s.resyncWait }) }

/-- The queue's head has been transmitted: it leaves the queue (R154). -/
def Line.headSent (l : Line) (e : TxEntry) (rest : List TxEntry) : Line :=
  { l with queue := rest }.finishSending e.frame

/-- The trunk port has sent a frame's last byte; the marked reply of a RESTART starts the warm reset, which ends in the
same act (R145, R147, R154). CREDITs that waited for the end of that reply are sent before the reset (DESIGN CHOICE,
log 21). -/
def State.trunkTransmitted (s : State) (v : BitVec 3) : State :=
  match s.trunk.sending, s.trunk.queue with
  | none, _ => s
  | some (.alert f), _ => { s with trunk := s.trunk.finishSending f }
  | some .head, [] => { s with trunk := { s.trunk with sending := none } }
  | some .head, e :: rest =>
    let t := { s with trunk := s.trunk.headSent e rest }
    if e.restart then t.warmReset.endReset v else t

/-- The field port has sent a frame's last byte; a SYNCQ is reported to the resync engine (R154, R164). -/
def State.fieldTransmitted (s : State) : State :=
  match s.field.sending, s.field.queue with
  | none, _ => s
  | some (.alert f), _ => { s with field := s.field.finishSending f }
  | some .head, [] => { s with field := { s.field with sending := none } }
  | some .head, e :: rest =>
    let t := { s with field := s.field.headSent e rest }
    if e.frame.kind = Config.kindSyncq then t.queryTransmitted e.frame.dest else t

/-- FRAME_TRANSMITTED (R154). -/
def execFrameTransmitted (p : PortId) (v : BitVec 3) (s : State) : Outcome :=
  match p with
  | .trunk => .next (s.trunkTransmitted v)
  | .field => .next s.fieldTransmitted

/-! ## Receiving -/

/-- FRAME_RECEIVED: discarded uncounted in DOWN and the quiet phase, a check error without credit given, otherwise
received into a buffer and kept or discarded by its length and check (R149, R153). -/
def execFrameReceived (p : PortId) (bytes : List Byte) (s : State) : Outcome :=
  let l := s.line p
  if l.talks then
    if l.creditGiven = 0 then .next (s.count (Counters.addCheck p))
    else
      let m := { l with creditGiven := l.creditGiven - 1 }
      match Frame.ofBytes? bytes with
      | some f => .next (s.setLine p { m with rx := m.rx ++ [f] })
      | none => .next ((s.setLine p m.lend).count (Counters.addCheck p))
  else .next s

/-- The field port has gone UP: FIELD-UP, and in RUN the free slots take nodes (R113, R157). -/
def State.fieldUp (s : State) : State := (s.notifyFlagged .fieldUp).fillSlots

/-- READY_RECEIVED: brings a port in the announcing phase UP with the announced credit; discarded or line fill
otherwise (R150). -/
def execReadyReceived (p : PortId) (count : Nat) (s : State) : Outcome :=
  if count ≤ Config.maxSendCredit then
    if (s.line p).link = .announcing then
      let t := s.setLine p { s.line p with link := .up, sendCredit := count }
      match p with
      | .trunk => .next t
      | .field => .next t.fieldUp
    else .next s
  else .refused .noSuchOperand

/-- CREDIT_RECEIVED: one more send credit in UP, up to 15 (R154). -/
def execCreditReceived (p : PortId) (s : State) : Outcome :=
  let l := s.line p
  if l.link = .up ∧ l.sendCredit < Config.maxSendCredit then .next (s.setLine p { l with sendCredit := l.sendCredit + 1 })
  else .next s

/-! ## The time of a port -/

/-- QUIET_PHASE_END: the announcing phase follows the quiet phase (R149). -/
def execQuietPhaseEnd (p : PortId) (s : State) : Outcome :=
  let l := s.line p
  if l.link = .quiet then .next (s.setLine p { l with link := .announcing }) else .next s

/-- READY_FILL: a READY announcing the credit given, unless a frame is being sent (R149, R150, log 18). -/
def execReadyFill (p : PortId) (s : State) : Outcome :=
  let l := s.line p
  if l.talks && l.sending.isNone then .next (s.setLine p { l with sent := l.sent ++ [.ready l.creditGiven] }) else .next s

/-- The trunk port has lost its link: buffers and queue discarded, the queue counted as flushed, every session ended,
a field DATA frame in hand dropped (R151, R156). -/
def State.trunkLinkDown (s : State) : State :=
  let t := ({ s with trunk := s.trunk.enterQuiet Config.receiveBuffers }.count
    (Counters.addFlushed s.trunk.queue.length)).endSessions
  if s.field.hold then t.finishField.count Counters.addDropped else t

/-- The field port has lost its link: buffers and queue discarded uncounted, the node table as R112 gives, FIELD-DOWN,
and a trunk DATA frame in hand placed in the emptied queue (R151, R157, log 10). -/
def State.fieldLinkDown (s : State) : State :=
  let t := ({ s with field := s.field.enterQuiet s.fieldGiven }.fieldNodesDown).notifyFlagged .fieldDown
  match s.trunk.inHand with
  | some f => { t.finishTrunk with field := t.field.place f }
  | none => t

/-- SILENCE_TIMEOUT: a port in UP loses its link (R151). -/
def execSilenceTimeout (p : PortId) (s : State) : Outcome :=
  if (s.line p).link = .up then
    match p with
    | .trunk => .next s.trunkLinkDown
    | .field => .next s.fieldLinkDown
  else .next s

end Sys2Proof.Machine
end

