-- ==== Sys2Proof/Machine/Dispatch.lean ====
section
/-! DEFINITION. The dispatch: one arm for each row of opcode_table.json. -/

namespace Sys2Proof.Machine

def exec (i : Instr) (s : State) : Host.Outcome State Fault Refusal :=
  match i with
  | .join => Sys2Proof.Machine.execJoin s
  | .leave => Sys2Proof.Machine.execLeave s
  | .setMask => Sys2Proof.Machine.execSetMask s
  | .readAgent => Sys2Proof.Machine.execReadAgent s
  | .claim => Sys2Proof.Machine.execClaim s
  | .peek => Sys2Proof.Machine.execPeek s
  | .done => Sys2Proof.Machine.execDone s
  | .putPromotion => Sys2Proof.Machine.execPutPromotion s
  | .clearPromotion => Sys2Proof.Machine.execClearPromotion s
  | .putSource => Sys2Proof.Machine.execPutSource s
  | .dropSource => Sys2Proof.Machine.execDropSource s
  | .block => Sys2Proof.Machine.execBlock s
  | .unblock => Sys2Proof.Machine.execUnblock s
  | .readSource => Sys2Proof.Machine.execReadSource s
  | .force => Sys2Proof.Machine.execForce s
  | .release => Sys2Proof.Machine.execRelease s
  | .putNode => Sys2Proof.Machine.execPutNode s
  | .dropNode => Sys2Proof.Machine.execDropNode s
  | .readNode => Sys2Proof.Machine.execReadNode s
  | .setContact => Sys2Proof.Machine.execSetContact s
  | .setTiming => Sys2Proof.Machine.execSetTiming s
  | .readPart => Sys2Proof.Machine.execReadPart s
  | .resume => Sys2Proof.Machine.execResume s
  | .restart => Sys2Proof.Machine.execRestart s
  | .undefinedRequestCode => Sys2Proof.Machine.execUndefinedRequestCode s
  | .foreignFrame => Sys2Proof.Machine.execForeignFrame s
  | .trunkDataTaken => Sys2Proof.Machine.execTrunkDataTaken s
  | .trunkDataPlaced => Sys2Proof.Machine.execTrunkDataPlaced s
  | .evt => Sys2Proof.Machine.execEvt s
  | .state => Sys2Proof.Machine.execState s
  | .fieldDataTaken => Sys2Proof.Machine.execFieldDataTaken s
  | .fieldDataPlaced => Sys2Proof.Machine.execFieldDataPlaced s
  | .strayFrame => Sys2Proof.Machine.execStrayFrame s
  | .moveNotice => Sys2Proof.Machine.execMoveNotice s
  | .placeSyncq => Sys2Proof.Machine.execPlaceSyncq s
  | .resyncWaitExpiry slot => Sys2Proof.Machine.execResyncWaitExpiry slot s
  | .serviceTimerExpiry agent index => Sys2Proof.Machine.execServiceTimerExpiry agent index s
  | .sampleEvent levels => Sys2Proof.Machine.execSampleEvent levels s
  | .trunkTransmitter => Sys2Proof.Machine.execTrunkTransmitter s
  | .fieldTransmitter => Sys2Proof.Machine.execFieldTransmitter s
  | .frameTransmitted port straps => Sys2Proof.Machine.execFrameTransmitted port straps s
  | .frameReceived port bytes => Sys2Proof.Machine.execFrameReceived port bytes s
  | .readyReceived port count => Sys2Proof.Machine.execReadyReceived port count s
  | .creditReceived port => Sys2Proof.Machine.execCreditReceived port s
  | .quietPhaseEnd port => Sys2Proof.Machine.execQuietPhaseEnd port s
  | .readyFill port => Sys2Proof.Machine.execReadyFill port s
  | .silenceTimeout port => Sys2Proof.Machine.execSilenceTimeout port s
  | .warmReset => Sys2Proof.Machine.execWarmReset s
  | .resetEnd straps => Sys2Proof.Machine.execResetEnd straps s
  | .powerOn straps rstn => Sys2Proof.Machine.execPowerOn straps rstn s

end Sys2Proof.Machine
end

