-- ==== Sys2Proof/Safety.lean ====
section
/-! DEFINITION. What counts as a safe run: the laws the spec says the part keeps, in the terms claims use. Each law
says which rule states it. -/

namespace Sys2Proof.Machine

open Sys2Proof

/-- The row of opcode_table.json that is the taking of a request. -/
def ReqCode.row : ReqCode → Instr
  | .join => .join
  | .leave => .leave
  | .setMask => .setMask
  | .readAgent => .readAgent
  | .claim => .claim
  | .peek => .peek
  | .done => .done
  | .putPromotion => .putPromotion
  | .clearPromotion => .clearPromotion
  | .putSource => .putSource
  | .dropSource => .dropSource
  | .block => .block
  | .unblock => .unblock
  | .readSource => .readSource
  | .force => .force
  | .release => .release
  | .putNode => .putNode
  | .dropNode => .dropNode
  | .readNode => .readNode
  | .setContact => .setContact
  | .setTiming => .setTiming
  | .readPart => .readPart
  | .resume => .resume
  | .restart => .restart

/-- A law that every step keeps, from every state that meets it and the laws `P` (not only from reset). -/
def KeptByStep (P L : State → Prop) : Prop :=
  ∀ s t : State, P s → L s → step s = .next t → L t

/-- The law stands on its own. -/
def NoOtherLaw (_s : State) : Prop := True

/-! ## The source table -/

/-- R2: no two loaded indexes hold the same key, and the node of every loaded key is present. -/
def State.KeyLaw (s : State) : Prop :=
  (∀ i : SourceIx, ∀ a ∈ s.source i, ∀ j : SourceIx, ∀ b ∈ s.source j,
    a.config.node = b.config.node → a.config.channel = b.config.channel → i = j) ∧
  ∀ i : SourceIx, ∀ a ∈ s.source i, (s.node a.config.node).isSome = true

/-- R4: ranks are 1..7, and every loaded source of rank 7 is of EDGE class. -/
def State.RankLaw (s : State) : Prop :=
  ∀ i : SourceIx, ∀ a ∈ s.source i, a.config.rank ≠ 0 ∧ (a.config.rank = 7 → a.config.cls = .edge)

/-- R22: a source that is not HELD is PENDING exactly when an active reason for its class is set, IDLE otherwise. -/
def State.PendingLaw (s : State) : Prop :=
  ∀ i : SourceIx, ∀ a ∈ s.source i,
    (a.status = .pending → a.active = true) ∧ (a.status = .idle → a.active = false)

/-- R22: latched is set on LEVEL sources only and edge-owed on EDGE sources only; a claim has consumed only a reason of
its source's class (R40). -/
def State.ReasonLaw (s : State) : Prop :=
  (∀ i : SourceIx, ∀ a ∈ s.source i,
    (a.reasons.latched = true → a.config.cls = .level) ∧ (a.reasons.edgeOwed = true → a.config.cls = .edge)) ∧
  ∀ k : AgentId, ∀ c ∈ (s.agent k).claims, ∀ a ∈ s.source c.source,
    (c.consumed.latched = true → a.config.cls = .level) ∧ (c.consumed.edgeOwed = true → a.config.cls = .edge)

/-- R52: every entry that is not empty names a loaded source of rank 1..6, and no source is named by two entries. -/
def State.PromotionLaw (s : State) : Prop :=
  (∀ p : PromoSlot, ∀ i ∈ s.promotion[p], ∃ a ∈ s.source i, a.config.rank ≠ 0 ∧ a.config.rank ≠ 7) ∧
  ∀ p : PromoSlot, ∀ i ∈ s.promotion[p], ∀ q : PromoSlot, s.promotion[q] = some i → p = q

/-! ## Agents -/

/-- R133: the holder of the management role is ATTACHED. -/
def State.RoleLaw (s : State) : Prop := ∀ k ∈ s.role, (s.agent k).attached = true

/-- R64: a DETACHED agent holds no claims, no stale marks and no notices, and its alert flag is clear. -/
def State.DetachedLaw (s : State) : Prop :=
  ∀ k : AgentId, (s.agent k).attached = false →
    (s.agent k).claims = [] ∧ (s.agent k).marks = [] ∧ (s.agent k).notices = [] ∧ (s.agent k).alert = false

/-- R71, R80, R84: a claim list, the stale marks and a notice list hold at most 8; the notices-lost flag is set only
while the notice list holds 8; no index is marked twice, and none that the agent holds a claim on is marked. -/
def State.ListLaw (s : State) : Prop :=
  ∀ k : AgentId, (s.agent k).claims.length ≤ 8 ∧ (s.agent k).marks.length ≤ 8 ∧ (s.agent k).notices.length ≤ 8 ∧
    ((s.agent k).noticesLost = true → (s.agent k).notices.length = 8) ∧ (s.agent k).marks.Nodup ∧
    ∀ c ∈ (s.agent k).claims, c.source ∉ (s.agent k).marks

/-- R71: a source is HELD by an agent exactly when that agent's claim list holds a claim on it, and no claim list holds
the same source twice. -/
def State.ClaimLaw (s : State) : Prop :=
  (∀ (i : SourceIx) (k : AgentId),
    (∃ a ∈ s.source i, a.status = .held k) ↔ ∃ c ∈ (s.agent k).claims, c.source = i) ∧
  ∀ k : AgentId, ((s.agent k).claims.map Claim.source).Nodup

/-- R59, R87, R89: an attached agent whose alert flag is clear has been told its attention rank. -/
def State.AlertLaw (s : State) : Prop :=
  ∀ k : AgentId, (s.agent k).attached = true → (s.agent k).alert = false → s.attention k = (s.agent k).lastSent

/-! ## Nodes -/

/-- R92: node 0 is present and SYNCED, with expected sequence, attempts used and gap count 0, and it is neither on the
wait list nor in a slot. -/
def State.NodeZeroLaw (s : State) : Prop :=
  (∃ r ∈ s.node 0, r.state = .synced ∧ r.expected = 0#8 ∧ r.attempts = 0 ∧ r.wasLost = false ∧ r.gaps = 0#16) ∧
  (0 : NodeId) ∉ s.waitList ∧ ∀ j : SlotId, ∀ e ∈ s.slots[j], e.node ≠ 0

/-- R99, R100: the wait list holds exactly the WAITING nodes, none twice, and the slots hold exactly the RESYNCING
nodes, none in two slots. -/
def State.WaitLaw (s : State) : Prop :=
  s.waitList.Nodup ∧
  (∀ n : NodeId, n ∈ s.waitList ↔ (s.node n).map Node.state = some .waiting) ∧
  (∀ n : NodeId, (∃ j : SlotId, ∃ e ∈ s.slots[j], e.node = n) ↔ (s.node n).map Node.state = some .resyncing) ∧
  ∀ j : SlotId, ∀ e ∈ s.slots[j], ∀ m : SlotId, ∀ g ∈ s.slots[m], e.node = g.node → j = m

/-- R93: a source is uncertain exactly when its node is not SYNCED. -/
def State.UncertainLaw (s : State) : Prop :=
  ∀ i : SourceIx, ∀ a ∈ s.source i, ∀ r ∈ s.node a.config.node, (a.uncertain = true ↔ r.state ≠ .synced)

/-- R100: in RUN with the field port UP, nodes wait only while every slot is taken. -/
def State.SlotsBusyLaw (s : State) : Prop :=
  s.mode = .run → s.field.link = .up → s.waitList ≠ [] → ∀ j : SlotId, (s.slots[j]).isSome = true

/-! ## The part -/

/-- R140, R146: in RUN the retained flag is clear. -/
def State.RetainedLaw (s : State) : Prop := s.mode = .run → s.retained = false

/-- R141, R46, R115: in STANDBY every source is IDLE with its reasons clear, no agent holds a claim and every slot is
free. -/
def State.StandbyLaw (s : State) : Prop :=
  s.mode = .standby →
    (∀ i : SourceIx, ∀ a ∈ s.source i, a.status = .idle ∧
      a.reasons = { edgeOwed := false, latched := false, asserted := false, forced := false }) ∧
    (∀ k : AgentId, (s.agent k).claims = []) ∧ ∀ j : SlotId, s.slots[j] = none

/-- R108: resync wait 1..255 and resync tries 1..7. -/
def State.TimingLaw (s : State) : Prop :=
  1 ≤ s.resyncWait ∧ s.resyncWait ≤ 255 ∧ 1 ≤ s.resyncTries ∧ s.resyncTries ≤ 7

/-- R116 to R118: the run count stays at most the filter length between sample events, and the run level is none
exactly when the run count of a SETTLING input is 0. -/
def Contact.Law (c : Contact) : Prop :=
  match c.filter with
  | .off => True
  | .opening => True
  | .settling runLevel run => run ≤ c.length.val ∧ (runLevel = none ↔ run = 0)
  | .settled _ run => run ≤ c.length.val

/-- Every contact input keeps its law. -/
def State.ContactLaw (s : State) : Prop := ∀ n : Channel, (s.contacts[n]).Law

/-! ## Ports and queues -/

/-- R161, R164: the trunk transmit queue holds at most 30 frames and the field transmit queue at most 16. -/
def State.QueueLaw (s : State) : Prop := s.trunk.queue.length ≤ 30 ∧ s.field.queue.length ≤ 16

/-- R145: at most one frame of the trunk transmit queue is the marked reply of a RESTART. -/
def State.RestartLaw (s : State) : Prop := (s.trunk.queue.filter TxEntry.restart).length ≤ 1

/-- Section 9.1, R149, R152, R154: buffers that hold frames and buffers lent never add up to more than 8; the send
credit is at most 15; credit and sending need the link UP; a frame in hand is a buffered one; the head is sent only
from a queue that holds one; CREDITs wait only for the end of a frame. -/
def Line.Law (l : Line) : Prop :=
  l.rx.length + l.creditGiven ≤ 8 ∧ l.sendCredit ≤ 15 ∧ (l.link ≠ .up → l.sendCredit = 0 ∧ l.sending = none) ∧
  (l.hold = true → l.rx ≠ []) ∧ (l.sending = some .head → l.queue ≠ []) ∧ (l.sending = none → l.creditsOwed = 0)

/-- Both ports keep their law, and in STANDBY the field port lends nothing and holds nothing (R142). -/
def State.PortLaw (s : State) : Prop :=
  s.trunk.Law ∧ s.field.Law ∧ (s.mode = .standby → s.field.creditGiven = 0 ∧ s.field.rx = [])

/-! ## Terms of the statements -/

/-- The request processor may take the oldest trunk frame, and it is `f`: the trunk port is UP, no marked RESTART reply
is queued, no frame is in hand, and `f` is the oldest buffered frame (R126, R145). -/
abbrev State.Takes (s : State) (f : Frame) : Prop :=
  s.trunk.link = .up ∧ (∀ e ∈ s.trunk.queue, e.restart = false) ∧ s.trunk.hold = false ∧ s.trunk.rx.head? = some f

/-- The oldest trunk frame is a request of agent `k` that may be taken, with room for its reply (Table 7-1, R129). -/
abbrev State.Asks (s : State) (f : Frame) (k : AgentId) : Prop :=
  s.Takes f ∧ f.dest = 0xF0#8 + s.straps.setWidth 8 ∧ f.kind = 0x10#8 ∧ f.orig = 0xE0#8 + BitVec.ofNat 8 k.val ∧
    s.trunk.queue.length < 28

/-- The same, and the request's payload is `p` (Table 11-4). -/
abbrev State.Sends (s : State) (f : Frame) (k : AgentId) (p : List Byte) : Prop := s.Asks f k ∧ f.payload = p

/-- Agent `k` has a session (Table 7-2, step 2). -/
abbrev State.Joined (s : State) (k : AgentId) : Prop := (s.agent k).session = .attached

/-- Agent `k` has a session and the role (Table 7-2, steps 2 and 3). -/
abbrev State.Manages (s : State) (k : AgentId) : Prop := s.Joined k ∧ s.role = some k

/-- The field intake may take the oldest field frame, and it is `f`: the part is in RUN, the field port is UP, no frame
is in hand, and `f` is the oldest buffered frame (R159). -/
abbrev State.Intakes (s : State) (f : Frame) : Prop :=
  s.mode = .run ∧ s.field.link = .up ∧ s.field.hold = false ∧ s.field.rx.head? = some f

/-- The place of a source in step 2 of R49: the slot that names it, and 4 when no entry names it. -/
def State.place (s : State) (i : SourceIx) : Nat :=
  match s.promoSlot i with
  | some p => p.val
  | none => 4

/-- Source `i` comes first of two distinct loaded sources: the four comparisons of R49. -/
abbrev State.Precedes (s : State) (i : SourceIx) (a : Source) (j : SourceIx) (b : Source) : Prop :=
  s.effectiveRank j b < s.effectiveRank i a ∨
  (s.effectiveRank j b = s.effectiveRank i a ∧
    (s.place i < s.place j ∨
    (s.place i = s.place j ∧
      (b.config.order < a.config.order ∨ (b.config.order = a.config.order ∧ i < j)))))

/-- R50: the loaded source at `i` is PENDING, unblocked, routed to agent `k`, and its effective rank lies within the
floor and ceiling. -/
abbrev State.Eligible (s : State) (k : AgentId) (floor ceiling : Nat) (i : SourceIx) (a : Source) : Prop :=
  s.source i = some a ∧ a.status = .pending ∧ a.config.blocked = false ∧ a.config.route.getLsbD k.val = true ∧
    floor ≤ (s.effectiveRank i a).val ∧ (s.effectiveRank i a).val ≤ ceiling

/-- R57: the loaded source at `i` is PENDING, unblocked, routed to agent `k`, and above its mask or overriding (of
effective rank 7, R48). -/
abbrev State.Counts (s : State) (k : AgentId) (i : SourceIx) (a : Source) : Prop :=
  s.source i = some a ∧ a.status = .pending ∧ a.config.blocked = false ∧ a.config.route.getLsbD k.val = true ∧
    ((s.agent k).mask < s.effectiveRank i a ∨ s.effectiveRank i a = 7)

/-- Table 7-4: the requests a status is given to. -/
def ReplyStatus.givenTo (st : ReplyStatus) (c : ReqCode) : Bool :=
  match st with
  | .ok => true
  | .none => decide (c ∈ [ReqCode.claim, .peek])
  | .late => decide (c ∈ [ReqCode.done])
  | .notHeld => decide (c ∈ [ReqCode.done])
  | .full => decide (c ∈ [ReqCode.claim])
  | .notJoined => c.needsSession
  | .alreadyJoined => decide (c ∈ [ReqCode.join])
  | .roleTaken => decide (c ∈ [ReqCode.join])
  | .noRole => decide (c ∉ [ReqCode.join, .leave, .setMask, .readAgent, .claim, .peek, .done, .readSource])
  | .mode => decide (c ∈ [ReqCode.claim, .peek, .done, .force, .resume])
  | .keyInUse => decide (c ∈ [ReqCode.putSource, .putPromotion])
  | .indexInUse => decide (c ∈ [ReqCode.putSource])
  | .noEntry =>
    decide (c ∈ [ReqCode.putSource, .dropSource, .block, .unblock, .readSource, .force, .release, .putPromotion, .dropNode,
     .readNode])
  | .sourceBusy => decide (c ∈ [ReqCode.putSource])
  | .nodeInUse => decide (c ∈ [ReqCode.dropNode])
  | .badArgument => decide (c ∉ [ReqCode.leave, .resume, .restart])
  | .badRequest => true

/-- `s` with the `m` oldest claims of agent `k` reclaimed at their sources: what each consumed is given back (R42). -/
def State.reclaimed (s : State) (k : AgentId) (m : Nat) : State :=
  { s with sources := Vector.ofFn fun i => (s.source i).map fun a =>
      match ((s.agent k).claims.take m).find? fun c => decide (c.source = i) with
      | some c => a.reclaim c.consumed
      | none => a }

/-- The session of agent `k` has ended between `s` and `t`: Table 4-1's values, the role freed if it held it, what each
of its claims consumed given back (R42), nothing else changed (R67). Another agent keeps everything but its alert flag,
which is set exactly when it was set or one of the re-evaluations, each after one more reclaim from the oldest on, finds
an attention rank that differs from its last sent rank (R59, R67). -/
abbrev State.SessionEnded (s : State) (k : AgentId) (t : State) : Prop :=
  t.agent k = { s.agent k with session := .detached, claims := [], marks := [], notices := [], noticesLost := false,
                               alert := false } ∧
  (∀ j : AgentId, j ≠ k →
    t.agent j = { s.agent j with alert := (t.agent j).alert } ∧
    ((t.agent j).alert = true ↔ (s.agent j).alert = true ∨ ((s.agent j).session = .attached ∧
      ∃ m : Nat, 1 ≤ m ∧ m ≤ (s.agent k).claims.length ∧ (s.reclaimed k m).attention j ≠ (s.agent j).lastSent))) ∧
  t.role = (if s.role = some k then none else s.role) ∧
  (∀ i : SourceIx, t.source i = (s.source i).map fun a =>
    match (s.agent k).claimOn i with
    | some c => a.reclaim c.consumed
    | none => a) ∧
  { t with agents := s.agents, role := s.role, sources := s.sources } = s

/-- Index and configuration as a PUT-SOURCE carries them (Table 11-4). -/
def sourceBytes (i : SourceIx) (g : SourceConfig) : List Byte :=
  [byteOf i.val, byteOf g.node.val, byteOf g.channel.val, g.cls.byte, g.trigger.byte, byteOf g.rank.val,
   byteOf g.order.val, g.route.setWidth 8, flagByte g.blocked]

end Sys2Proof.Machine
end

