-- ==== Sys2Proof/WellFormed.lean ====
section
/-! DEFINITION. Which commands name something the part has: a slot 0..3 (R100), an agent 0..3 (R63), a source index
0..255 (R1), a READY count 0..15 (Chapter 9, opening). Every other operand is any value of its type. -/

namespace Sys2Proof

/-- The command names only slots, agents, indexes and counts that exist. -/
def Instr.wellFormed : Instr → Bool
  | .resyncWaitExpiry slot => decide (slot < 4)
  | .serviceTimerExpiry agent index => decide (agent < 4) && decide (index < 256)
  | .readyReceived _ count => decide (count ≤ 15)
  | .join => true
  | .leave => true
  | .setMask => true
  | .readAgent => true
  | .claim => true
  | .peek => true
  | .done => true
  | .putPromotion => true
  | .clearPromotion => true
  | .putSource => true
  | .dropSource => true
  | .block => true
  | .unblock => true
  | .readSource => true
  | .force => true
  | .release => true
  | .putNode => true
  | .dropNode => true
  | .readNode => true
  | .setContact => true
  | .setTiming => true
  | .readPart => true
  | .resume => true
  | .restart => true
  | .undefinedRequestCode => true
  | .foreignFrame => true
  | .trunkDataTaken => true
  | .trunkDataPlaced => true
  | .evt => true
  | .state => true
  | .fieldDataTaken => true
  | .fieldDataPlaced => true
  | .strayFrame => true
  | .moveNotice => true
  | .placeSyncq => true
  | .sampleEvent _ => true
  | .trunkTransmitter => true
  | .fieldTransmitter => true
  | .frameTransmitted _ _ => true
  | .frameReceived _ _ => true
  | .creditReceived _ => true
  | .quietPhaseEnd _ => true
  | .readyFill _ => true
  | .silenceTimeout _ => true
  | .warmReset => true
  | .resetEnd _ => true
  | .powerOn _ _ => true

end Sys2Proof
end

