-- ==== Sys2Proof/Certificates/Slice0/Obligations.lean ====
section
/-! DEFINITION. The statements for the provers: what spec/ says each step of the part does, and the laws every step
keeps. Each request is stated from `State.Sends`: the request stands oldest in the trunk buffers, the processor may take
it, and there is room for its reply. -/

section
open Sys2Proof Sys2Proof.Machine

/-! ## The step, codes and counters -/

/-- A step carries out the command at the front of the queue on the state with the queue's rest; on an empty queue the
part idles (log 1, log 3). -/
def Obligations.StepRunsFrontCommand : Prop :=
  (∀ (s : State) (c : Instr) (rest : List Instr), s.pending = c :: rest → step s = exec c { s with pending := rest }) ∧
  ∀ s : State, s.pending = [] → step s = .next s

/-- No command touches the queue of waiting commands (log 1). A command that names slots, agents, indexes and counts
that exist answers a next state from every state; any other is refused by name (log 2, log 15, log 20). -/
def Obligations.CommandsAnswer : Prop :=
  (∀ (c : Instr) (s t : State), exec c s = .next t → t.pending = s.pending) ∧
  ((∀ (c : Instr) (s : State), c.wellFormed = true → ∃ t : State, exec c s = .next t) ∧
   ∀ (c : Instr) (s : State), c.wellFormed = false → exec c s = .refused .noSuchOperand)

/-- Request codes and lengths (Table 11-4), session, role and mode needs (Table 7-3), status codes (Table 11-5), the
value codes of Section 11.3, the kinds and arguments of notices (Table 11-6), two-byte values and saturating counts
(00_scope.md, Numbers and Counters). READ-NODE and READ-PART carry the clear option last, no other request has one
(Table 11-4). -/
def Obligations.CodesAndCounters : Prop :=
  (ReqCode.all.map fun c => (c.byte, c.len)) =
    [(0x01#8, 6), (0x02#8, 1), (0x03#8, 2), (0x04#8, 2), (0x05#8, 3), (0x06#8, 3), (0x07#8, 2), (0x08#8, 3),
     (0x09#8, 2), (0x0A#8, 10), (0x0B#8, 2), (0x0C#8, 2), (0x0D#8, 2), (0x0E#8, 2), (0x0F#8, 2), (0x10#8, 2),
     (0x11#8, 4), (0x12#8, 2), (0x13#8, 3), (0x14#8, 5), (0x15#8, 3), (0x16#8, 2), (0x17#8, 1), (0x18#8, 1)] ∧
  (∀ c : ReqCode, c.needsSession = decide (c ∉ [ReqCode.join, .readAgent, .readSource, .readNode, .readPart])) ∧
  (∀ (c : ReqCode) (args : List Byte), c ≠ .readNode → c ≠ .readPart →
    c.needsRole args = decide (c ∉ [ReqCode.join, .leave, .setMask, .readAgent, .claim, .peek, .done, .readSource])) ∧
  (∀ (c : ReqCode) (args : List Byte), c ≠ .readNode → c ≠ .readPart → c.clearOption args = none) ∧
  (∀ n o : Byte, ReqCode.clearOption .readNode [n, o] = some o) ∧
  (∀ o : Byte, ReqCode.clearOption .readPart [o] = some o) ∧
  (∀ n o : Byte, ReqCode.needsRole .readNode [n, o] = decide (o = 0x01#8)) ∧
  (∀ o : Byte, ReqCode.needsRole .readPart [o] = decide (o = 0x01#8)) ∧
  (∀ c : ReqCode, c.needsMode = if c ∈ [ReqCode.claim, .peek, .done, .force] then some .run
    else if c = .resume then some .standby else none) ∧
  [ReplyStatus.ok, .none, .late, .notHeld, .full, .notJoined, .alreadyJoined, .roleTaken, .noRole, .mode, .keyInUse,
    .indexInUse, .noEntry, .sourceBusy, .nodeInUse, .badArgument, .badRequest].map ReplyStatus.byte =
    [0x00#8, 0x01#8, 0x02#8, 0x03#8, 0x04#8, 0x05#8, 0x06#8, 0x07#8, 0x08#8, 0x09#8, 0x0A#8, 0x0B#8, 0x0C#8, 0x0D#8,
     0x0E#8, 0x0F#8, 0x10#8] ∧
  [SourceClass.edge, .level].map SourceClass.byte = [0x00#8, 0x01#8] ∧
  [Trigger.rising, .falling, .both].map Trigger.byte = [0x00#8, 0x01#8, 0x02#8] ∧
  [NodeState.synced, .waiting, .resyncing, .lost].map NodeState.byte = [0x00#8, 0x01#8, 0x02#8, 0x03#8] ∧
  [false, true].map flagByte = [0x00#8, 0x01#8] ∧
  [Mode.standby, .run].map Mode.byte = [0x00#8, 0x01#8] ∧
  [Session.detached, .attached].map Session.byte = [0x00#8, 0x01#8] ∧
  (∀ k : AgentId, [Status.idle, .pending, .held k].map Status.byte = [0x00#8, 0x01#8, 0x02#8]) ∧
  (∀ w : Nat, [SlotPhase.queryOwed, .queryQueued, .waiting w].map SlotPhase.byte = [0x01#8, 0x02#8, 0x03#8]) ∧
  (∀ (runLevel : Option Bool) (level : Bool) (run : Nat),
    [Filter.off, .opening, .settling runLevel run, .settled level run].map Filter.byte =
      [0x00#8, 0x01#8, 0x02#8, 0x03#8]) ∧
  (∀ (e l a f : Bool), Reasons.byte { edgeOwed := e, latched := l, asserted := a, forced := f } =
    (if e = true then 0x01#8 else 0#8) ||| (if l = true then 0x02#8 else 0#8) |||
      (if a = true then 0x04#8 else 0#8) ||| (if f = true then 0x08#8 else 0#8)) ∧
  (∀ (e l : Bool), Consumed.byte { edgeOwed := e, latched := l } =
    (if e = true then 0x01#8 else 0#8) ||| (if l = true then 0x02#8 else 0#8)) ∧
  (∀ k : Fin 4, optByte (some k) = BitVec.ofNat 8 k.val) ∧ optByte (none : Option (Fin 4)) = 0xFF#8 ∧
  (∀ (i : SourceIx) (n : NodeId),
    [Notice.stale i, .withdrawn i, .gap n, .lost n, .regained n, .fieldDown, .fieldUp].map
        (fun v => (v.kindByte, v.argByte)) =
      [(0x01#8, BitVec.ofNat 8 i.val), (0x02#8, BitVec.ofNat 8 i.val), (0x03#8, BitVec.ofNat 8 n.val),
       (0x04#8, BitVec.ofNat 8 n.val), (0x05#8, BitVec.ofNat 8 n.val), (0x06#8, 0x00#8), (0x07#8, 0x00#8)]) ∧
  (∀ n : Nat, byteOf n = BitVec.ofNat 8 n) ∧
  (∀ h : Half, halfBytes h = [BitVec.ofNat 8 (h.toNat / 256), BitVec.ofNat 8 (h.toNat % 256)]) ∧
  (∀ c : Byte, satSucc c = satAdd c 1) ∧ (∀ c : Half, satSucc c = satAdd c 1) ∧
  (∀ (c : Byte) (n : Nat), (satAdd c n).toNat = min (c.toNat + n) 255) ∧
  ∀ (c : Half) (n : Nat), (satAdd c n).toNat = min (c.toNat + n) 65535

/-! ## Requests in common -/

/-- A buffer whose frame is finished with is lent again, with a CREDIT at once or, while a frame is being sent, at the
next point between two frames (R126, R152). A reply is one frame at the tail of the trunk transmit queue, in the act
that finishes with the request (R129, R166, R169). -/
def Obligations.BuffersAndReplies : Prop :=
  (∀ l : Line, l.link = .up ∨ l.link = .announcing →
    l.finishHead = { l with
      rx := l.rx.tail
      hold := false
      creditGiven := l.creditGiven + 1
      creditsOwed := if l.sending = none then l.creditsOwed else l.creditsOwed + 1
      sent := if l.sending = none then l.sent ++ [LineItem.credit] else l.sent }) ∧
  ∀ (s : State) (f : Frame) (r : Reply), s.trunk.link = .up → ∀ (code : Byte) (args : List Byte),
    f.payload = code :: args →
    s.answer f r = { s with trunk := { s.trunk.finishHead with
      queue := s.trunk.queue ++ [{
        frame := Frame.sealed f.orig (0xF0#8 + s.straps.setWidth 8) 0x11#8 f.tag (code :: r.status.byte :: r.report)
        restart := r.restart }] } }

/-- The common checks in the order of Table 7-2: the first that fails decides the status, the reply has no report, and
nothing but the reply happens (R130, R131). A request with an undefined code, or with no code at all, is answered
BAD_REQUEST; without a code the reply carries 0x00 (R131, R168, R169). -/
def Obligations.CommonChecksDecide : Prop :=
  (∀ (s : State) (f : Frame) (k : AgentId) (c : ReqCode) (args : List Byte), s.Sends f k (c.byte :: args) →
     let wellFormed := args.length + 1 = c.len ∧ ∀ o ∈ c.clearOption args, o = 0x00#8 ∨ o = 0x01#8
     let session := c.needsSession = true → s.Joined k
     let role := c.needsRole args = true → s.role = some k
     (¬ wellFormed → exec c.row s = .next (s.answer f { status := .badRequest })) ∧
     (wellFormed → ¬ session → exec c.row s = .next (s.answer f { status := .notJoined })) ∧
     (wellFormed → session → ¬ role → exec c.row s = .next (s.answer f { status := .noRole })) ∧
     (wellFormed → session → role → ∀ m ∈ c.needsMode, s.mode ≠ m →
       exec c.row s = .next (s.answer f { status := .mode }))) ∧
  (∀ (s : State) (f : Frame) (k : AgentId), s.Asks f k →
     (∀ (code : Byte) (args : List Byte), f.payload = code :: args → (code = 0x00#8 ∨ 0x18 < code.toNat) →
       exec .undefinedRequestCode s = .next (s.answer f { status := .badRequest })) ∧
     (f.payload = [] → exec .undefinedRequestCode s = .next { s with trunk := { s.trunk.finishHead with
       queue := s.trunk.queue ++ [{
         frame := Frame.sealed f.orig (0xF0#8 + s.straps.setWidth 8) 0x11#8 f.tag [0x00#8, 0x10#8]
         restart := false }] } }))

/-- Every trunk frame waits, and nothing changes, while the trunk port is not UP, a marked RESTART reply is queued, a
frame is in hand or nothing is buffered; a request waits also while the trunk transmit queue holds 28 frames or more
(R126, R127, R129, R145; for the link, log 6). The oldest frame holds back those behind it (R126): while it is no
request no request row takes anything, while it is a request only the row of its code does, and TRUNK_DATA_TAKEN takes
nothing unless it is DATA for a field station; that such a row then leaves the state as it was is the model's choice
(log 2). -/
def Obligations.RequestsWait : Prop :=
  (∀ s : State,
    let held := s.trunk.link ≠ .up ∨ (∃ e ∈ s.trunk.queue, e.restart = true) ∨ s.trunk.hold = true ∨ s.trunk.rx = []
    (held ∨ 28 ≤ s.trunk.queue.length →
      (∀ c : ReqCode, exec c.row s = .next s) ∧ exec .undefinedRequestCode s = .next s) ∧
    (held → exec .foreignFrame s = .next s ∧ exec .trunkDataTaken s = .next s)) ∧
  (∀ (s : State) (f : Frame) (k : AgentId) (c : ReqCode), s.Asks f k →
    (f.payload.head? ≠ some c.byte → exec c.row s = .next s) ∧
    (f.payload.head? = some c.byte → exec .undefinedRequestCode s = .next s)) ∧
  (∀ (s : State) (f : Frame), s.Takes f →
    (f.dest ≠ 0xF0#8 + s.straps.setWidth 8 ∨ f.kind ≠ 0x10#8 ∨ f.orig.toNat < 0xE0 ∨ 0xE3 < f.orig.toNat) →
    (∀ c : ReqCode, exec c.row s = .next s) ∧ exec .undefinedRequestCode s = .next s) ∧
  ∀ (s : State) (f : Frame), s.Takes f → (f.dest.toNat = 0 ∨ 63 < f.dest.toNat ∨ f.kind ≠ 0x01#8) →
    exec .trunkDataTaken s = .next s

/-- Every request taken gets one reply, the one frame it adds to the trunk side. Each status is given only to the
requests Table 7-4 names, ROLE_TAKEN to a JOIN alone, and a status other than OK and ROLE_TAKEN reports a request that
changed no state, with no report (R132, R129, R169). -/
def Obligations.StatusesAndRefusals : Prop :=
  ∀ (s : State) (f : Frame) (k : AgentId) (c : ReqCode), s.Asks f k → f.payload.head? = some c.byte →
    ∃ (t : State) (r : Reply), exec c.row s = .next (t.answer f r) ∧ r.status.givenTo c = true ∧
      t.trunk = s.trunk ∧
      (r.status ≠ .ok → r.status ≠ .roleTaken → t = s ∧ r.report = [] ∧ r.restart = false)

/-! ## Ranking and attention -/

/-- The best source of the sources that meet a condition is the one that comes before all the others; there is one
exactly when some source meets the condition (R49, R51). -/
def Obligations.BestSourceComesFirst : Prop :=
  ∀ (s : State) (P : SourceIx → Source → Bool),
    (∀ (i : SourceIx) (a : Source), s.best P = some (i, a) ↔
      s.source i = some a ∧ P i a = true ∧
        ∀ (j : SourceIx) (b : Source), s.source j = some b → P j b = true → j ≠ i → s.Precedes i a j b) ∧
    (s.best P = none ↔ ∀ (j : SourceIx) (b : Source), s.source j = some b → P j b = false)

/-- The slot that names a source (R52; the lowest, if two did, log 16), effective rank (R48), and the attention rank of
an agent: 0 when it is DETACHED; otherwise the highest effective rank of a source that counts, and 0 when none does
(R57, R58, R62). -/
def Obligations.AttentionRank : Prop :=
  (∀ (s : State) (i : SourceIx) (p : PromoSlot), s.promoSlot i = some p ↔
    s.promotion[p] = some i ∧ ∀ q : PromoSlot, q < p → s.promotion[q] ≠ some i) ∧
  (∀ (s : State) (i : SourceIx) (a : Source), s.effectiveRank i a =
    if ∃ p : PromoSlot, s.promotion[p] = some i then 6 else a.config.rank) ∧
  (∀ (s : State) (k : AgentId), (s.agent k).session = .detached → s.attention k = 0) ∧
  ∀ (s : State) (k : AgentId), (s.agent k).session = .attached →
    (∀ (i : SourceIx) (a : Source), s.Counts k i a → s.effectiveRank i a ≤ s.attention k) ∧
    (s.attention k ≠ 0 → ∃ (i : SourceIx) (a : Source), s.Counts k i a ∧ s.effectiveRank i a = s.attention k)

/-- A re-evaluation sets the alert flag of an attached agent whose attention rank differs from its last sent rank and
changes nothing else; an event on a source is followed by the re-evaluation of every attached agent exactly when it
changed the source's state (R23, R59, R60, R87). -/
def Obligations.ReEvaluation : Prop :=
  (∀ (s : State) (k : AgentId), (s.reEvaluateAll).agent k =
    if (s.agent k).session = .attached ∧ s.attention k ≠ (s.agent k).lastSent then { s.agent k with alert := true }
    else s.agent k) ∧
  (∀ s : State, { s.reEvaluateAll with agents := s.agents } = s) ∧
  (∀ (s : State) (k : AgentId), s.reEvaluate k = { s with agents := s.agents.set k ((s.reEvaluateAll).agent k) }) ∧
  (∀ (s : State) (i : SourceIx) (f : Source → Source), s.source i = none → s.changeSource i f = s) ∧
  ∀ (s : State) (i : SourceIx) (f : Source → Source) (a : Source), s.source i = some a →
    let t : State := { s with sources := s.sources.set i (some (f a)) }
    ((f a).status = a.status → s.changeSource i f = t) ∧ ((f a).status ≠ a.status → s.changeSource i f = t.reEvaluateAll)

/-! ## The pending state of a source -/

/-- Table 2-2: what a RAISE, FALL or PULSE does to the reasons and the merge count of a source of each class and
trigger, and the state that follows (R22, R23, R25, R26, R32 to R36). -/
def Obligations.TransitionTable : Prop :=
  ∀ (a : Source) (t : Transition),
    let triggers : Nat := match t, a.config.trigger with
      | .raise, .rising => 1 | .raise, .falling => 0 | .raise, .both => 1
      | .fall, .rising => 0 | .fall, .falling => 1 | .fall, .both => 1
      | .pulse, .rising => 1 | .pulse, .falling => 1 | .pulse, .both => 2
    let level : Bool := match t with
      | .raise => true | .fall => false | .pulse => a.reasons.asserted
    let b := a.transition t
    b.config = a.config ∧ b.uncertain = a.uncertain ∧ b.reasons.forced = a.reasons.forced ∧
    b.reasons.asserted = level ∧
    (a.config.cls = .edge → b.reasons.latched = a.reasons.latched ∧
      b.reasons.edgeOwed = (a.reasons.edgeOwed || decide (0 < triggers)) ∧
      b.merge.toNat = min (a.merge.toNat + (if a.reasons.edgeOwed = true then triggers else triggers - 1)) 255) ∧
    (a.config.cls = .level → b.reasons.edgeOwed = a.reasons.edgeOwed ∧
      b.reasons.latched = (a.reasons.latched || decide (t = .pulse)) ∧
      b.merge.toNat = min (a.merge.toNat + (if a.reasons.latched = true ∧ t = .pulse then 1 else 0)) 255) ∧
    (∀ k : AgentId, a.status = .held k → b.status = .held k) ∧
    (a.isHeld = false → b.status = if b.active = true then .pending else .idle) ∧
    b.active = (b.reasons.forced || match a.config.cls with
      | .edge => b.reasons.edgeOwed
      | .level => b.reasons.asserted || b.reasons.latched)

/-- Which sources are HELD, and the active reasons of each class (R22, R24). A reported level sets asserted on a LEVEL
source and is no transition; on an EDGE source a level that differs from asserted is a RAISE or FALL, and an equal one
is nothing (R37). FORCE and RELEASE set and clear forced alone (R28). What a grant, a completion and a reclaim do to a
source (R40, R41, R42). -/
def Obligations.SourceEvents : Prop :=
  (∀ a : Source, (a.isHeld = true ↔ ∃ k : AgentId, a.status = .held k) ∧
    a.active = (a.reasons.forced || match a.config.cls with
      | .edge => a.reasons.edgeOwed
      | .level => a.reasons.asserted || a.reasons.latched)) ∧
  (∀ (a : Source) (level : Bool), a.config.cls = .level → a.takeLevel level =
    let b := { a with reasons := { a.reasons with asserted := level } }
    if a.isHeld = true then b else { b with status := if b.active = true then .pending else .idle }) ∧
  (∀ (a : Source) (level : Bool), a.config.cls = .edge → a.takeLevel level =
    if a.reasons.asserted = level then a else a.transition (if level = true then .raise else .fall)) ∧
  (∀ (a : Source) (v : Bool), a.setForced v =
    let b := { a with reasons := { a.reasons with forced := v } }
    if a.isHeld = true then b else { b with status := if b.active = true then .pending else .idle }) ∧
  (∀ (a : Source) (k : AgentId), a.grant k = { a with
    status := .held k
    merge := 0#8
    reasons := { a.reasons with edgeOwed := false, latched := false } }) ∧
  (∀ a : Source, a.complete = { a with status := if a.active = true then .pending else .idle }) ∧
  ∀ (a : Source) (c : Consumed),
    let b := { a with
      reasons := { a.reasons with
        edgeOwed := a.reasons.edgeOwed || c.edgeOwed
        latched := a.reasons.latched || c.latched }
      merge := satAdd a.merge ((a.reasons.edgeOwed && c.edgeOwed).toNat + (a.reasons.latched && c.latched).toNat) }
    a.reclaim c = { b with status := if b.active = true then .pending else .idle }

/-! ## Agents and claims -/

/-- JOIN: the record of Table 4-1, the role when asked for and free, the reply with mode, retained flag and role, and
the evaluation of the joining agent alone; ALREADY_JOINED and BAD_ARGUMENT change nothing (R65, R66, R60). -/
def Obligations.JoinAttaches : Prop :=
  (∀ (s : State) (f : Frame) (k : AgentId) (mask : Rank) (limit : Half) (notice want : Bool),
    s.Sends f k (0x01#8 :: byteOf mask.val :: halfBytes limit ++ [flagByte notice, flagByte want]) →
    (s.agent k).session = .detached → limit.toNat ≤ 60000 →
    let role := if want = true ∧ s.role = none then some k else s.role
    let t : State := { s with
      role := role
      agents := s.agents.set k {
        session := .attached, mask := mask, serviceLimit := limit, noticeFlag := notice, claims := [], marks := [],
        notices := [], noticesLost := false, alert := false, lastSent := 0, reclaims := 0#16 } }
    exec .join s = .next ((t.reEvaluate k).answer f {
      status := if want = true ∧ role ≠ some k then .roleTaken else .ok
      report := [s.mode.byte, flagByte s.retained, flagByte (decide (role = some k))] })) ∧
  (∀ (s : State) (f : Frame) (k : AgentId) (m hi lo n w : Byte), s.Sends f k [0x01#8, m, hi, lo, n, w] → s.Joined k →
    exec .join s = .next (s.answer f { status := .alreadyJoined })) ∧
  ∀ (s : State) (f : Frame) (k : AgentId) (m hi lo n w : Byte), s.Sends f k [0x01#8, m, hi, lo, n, w] →
    (s.agent k).session = .detached →
    (7 < m.toNat ∨ 60000 < hi.toNat * 256 + lo.toNat ∨ 1 < n.toNat ∨ 1 < w.toNat) →
    exec .join s = .next (s.answer f { status := .badArgument })

/-- LEAVE ends the session and reports the number of claims reclaimed: what each claim consumed is given back, the
agent's lists and flags are cleared, the role is freed, and another agent's alert flag is set exactly when it was set
or a re-evaluation after one of the reclaims finds its attention rank moved (R42, R59, R67). -/
def Obligations.LeaveEndsSession : Prop :=
  ∀ (s : State) (f : Frame) (k : AgentId), s.Sends f k [0x02#8] → s.Joined k → s.ClaimLaw →
    ∃ t : State, s.SessionEnded k t ∧
      exec .leave s = .next (t.answer f { status := .ok, report := [byteOf (s.agent k).claims.length] })

/-- SET-MASK, admitted only from an attached agent, sets the mask, re-evaluates the requesting agent alone and reports
its attention rank under the new mask; a mask outside 0..7 changes nothing (R69). -/
def Obligations.SetMaskReEvaluates : Prop :=
  (∀ (s : State) (f : Frame) (k : AgentId) (m : Byte), s.Sends f k [0x03#8, m] →
    (¬ s.Joined k → exec .setMask s = .next (s.answer f { status := .notJoined })) ∧
    (s.Joined k → 7 < m.toNat → exec .setMask s = .next (s.answer f { status := .badArgument }))) ∧
  ∀ (s : State) (f : Frame) (k : AgentId) (mask : Rank), s.Sends f k [0x03#8, byteOf mask.val] → s.Joined k →
    let t : State := { s with agents := s.agents.set k { s.agent k with mask := mask } }
    exec .setMask s =
      .next ((t.reEvaluate k).answer f { status := .ok, report := [byteOf (t.attention k).val] })

/-- READ-AGENT and READ-SOURCE report the record as it stands and change nothing (R20, R70, R169). -/
def Obligations.ReadAgentAndSource : Prop :=
  (∀ (s : State) (f : Frame) (k j : AgentId), s.Sends f k [0x04#8, byteOf j.val] →
    let a := s.agent j
    exec .readAgent s = .next (s.answer f {
      status := .ok
      report := [a.session.byte, flagByte (decide (s.role = some j)), byteOf a.mask.val] ++ halfBytes a.serviceLimit ++
        [flagByte a.noticeFlag, byteOf a.notices.length, flagByte a.noticesLost, flagByte a.alert,
         byteOf a.lastSent.val, byteOf (s.attention j).val] ++ halfBytes a.reclaims ++
        [byteOf a.claims.length] ++ a.claims.flatMap (fun c =>
          [byteOf c.source.val, byteOf (c.consumed.edgeOwed.toNat + 2 * c.consumed.latched.toNat)]) ++
        [byteOf a.marks.length] ++ a.marks.map (fun i => byteOf i.val) })) ∧
  (∀ (s : State) (f : Frame) (k : AgentId) (j : Byte), s.Sends f k [0x04#8, j] → 3 < j.toNat →
    exec .readAgent s = .next (s.answer f { status := .badArgument })) ∧
  (∀ (s : State) (f : Frame) (k : AgentId) (i : SourceIx) (a : Source), s.Sends f k [0x0E#8, byteOf i.val] →
    s.source i = some a →
    exec .readSource s = .next (s.answer f {
      status := .ok
      report := [byteOf a.config.node.val, byteOf a.config.channel.val, a.config.cls.byte, a.config.trigger.byte,
          byteOf a.config.rank.val, byteOf a.config.order.val, a.config.route.setWidth 8, flagByte a.config.blocked,
          (match s.promoSlot i with
            | some p => byteOf p.val
            | none => 0xFF#8),
          a.status.byte] ++
        (match a.status with
          | .held h => byteOf h.val :: halfBytes (match (s.agent h).claimOn i with
            | some c => c.grant
            | none => 0#16)
          | .idle => [0xFF#8, 0x00#8, 0x00#8]
          | .pending => [0xFF#8, 0x00#8, 0x00#8]) ++
        [byteOf (a.reasons.edgeOwed.toNat + 2 * a.reasons.latched.toNat + 4 * a.reasons.asserted.toNat +
          8 * a.reasons.forced.toNat), flagByte a.uncertain, a.merge] })) ∧
  ∀ (s : State) (f : Frame) (k : AgentId) (i : SourceIx), s.Sends f k [0x0E#8, byteOf i.val] → s.source i = none →
    exec .readSource s = .next (s.answer f { status := .noEntry })

/-- CLAIM in RUN with a valid range and fewer than 8 claims grants the eligible source that comes first: the source is
HELD with edge-owed, latched and merge count cleared, the claim with the next grant number stands at the tail of the
list, every stale mark for the source is gone, every attached agent is re-evaluated, and the reply reports the grant
(R40, R50, R51, R72, R74, R78). -/
def Obligations.ClaimGrantsBest : Prop :=
  ∀ (s : State) (f : Frame) (k : AgentId) (lo hi : Byte) (i : SourceIx) (a : Source),
    s.Sends f k [0x05#8, lo, hi] → s.Joined k → s.mode = .run → 1 ≤ lo.toNat → lo.toNat ≤ hi.toNat → hi.toNat ≤ 7 →
    (s.agent k).claims.length < 8 → s.Eligible k lo.toNat hi.toNat i a →
    (∀ (j : SourceIx) (b : Source), s.Eligible k lo.toNat hi.toNat j b → j ≠ i → s.Precedes i a j b) →
    let consumed : Consumed := { edgeOwed := a.reasons.edgeOwed, latched := a.reasons.latched }
    let kept : Reasons := { a.reasons with edgeOwed := false, latched := false }
    let claim : Claim := {
      source := i, consumed := consumed, grant := s.grantNumber,
      deadline := if (s.agent k).serviceLimit = 0#16 then none else some (s.agent k).serviceLimit }
    let t : State := { s with
      grantNumber := s.grantNumber + 1#16
      sources := s.sources.set i (some { a with status := .held k, reasons := kept, merge := 0#8 })
      agents := Vector.ofFn fun j => { s.agent j with
        marks := (s.agent j).marks.filter fun m => decide (m ≠ i)
        claims := if j = k then (s.agent j).claims ++ [claim] else (s.agent j).claims } }
    exec .claim s = .next (t.reEvaluateAll.answer f {
      status := .ok
      report := [byteOf i.val, byteOf a.config.node.val, byteOf a.config.channel.val,
          byteOf (s.effectiveRank i a).val] ++ halfBytes s.grantNumber ++
        [consumed.byte, a.merge, kept.byte, flagByte a.uncertain] })

/-- The three decisions of CLAIM in order: BAD_ARGUMENT for the range, FULL at 8 claims, NONE without an eligible
source; each changes nothing (R73, R50, R51). -/
def Obligations.ClaimRefusals : Prop :=
  ∀ (s : State) (f : Frame) (k : AgentId) (lo hi : Byte), s.Sends f k [0x05#8, lo, hi] → s.Joined k → s.mode = .run →
    let range := 1 ≤ lo.toNat ∧ lo.toNat ≤ hi.toNat ∧ hi.toNat ≤ 7
    (¬ range → exec .claim s = .next (s.answer f { status := .badArgument })) ∧
    (range → 8 ≤ (s.agent k).claims.length → exec .claim s = .next (s.answer f { status := .full })) ∧
    (range → (s.agent k).claims.length < 8 →
      (∀ (i : SourceIx) (a : Source), ¬ s.Eligible k lo.toNat hi.toNat i a) →
      exec .claim s = .next (s.answer f { status := .none }))

/-- PEEK, admitted only from an attached agent in RUN, names the eligible source that comes first, whatever the size of
the claim list, and changes nothing; without one it is answered NONE, and BAD_ARGUMENT outside the range (R75, R50,
R51). -/
def Obligations.PeekNamesBest : Prop :=
  ∀ (s : State) (f : Frame) (k : AgentId) (lo hi : Byte), s.Sends f k [0x06#8, lo, hi] →
    let range := 1 ≤ lo.toNat ∧ lo.toNat ≤ hi.toNat ∧ hi.toNat ≤ 7
    (¬ s.Joined k → exec .peek s = .next (s.answer f { status := .notJoined })) ∧
    (s.Joined k → s.mode ≠ .run → exec .peek s = .next (s.answer f { status := .mode })) ∧
    (s.Joined k → s.mode = .run → ¬ range → exec .peek s = .next (s.answer f { status := .badArgument })) ∧
    (s.Joined k → s.mode = .run → range → (∀ (i : SourceIx) (a : Source), ¬ s.Eligible k lo.toNat hi.toNat i a) →
      exec .peek s = .next (s.answer f { status := .none })) ∧
    (s.Joined k → s.mode = .run → range → ∀ (i : SourceIx) (a : Source), s.Eligible k lo.toNat hi.toNat i a →
      (∀ (j : SourceIx) (b : Source), s.Eligible k lo.toNat hi.toNat j b → j ≠ i → s.Precedes i a j b) →
      exec .peek s = .next (s.answer f {
        status := .ok
        report := [byteOf i.val, byteOf a.config.node.val, byteOf a.config.channel.val,
          byteOf (s.effectiveRank i a).val] }))

/-- DONE, admitted only from an attached agent in RUN, looks first at the claim list and then at the stale marks: OK
removes the claim, completes the source and reports its state; LATE and NOT_HELD change nothing (R76, R77, R41). -/
def Obligations.DoneAnswers : Prop :=
  ∀ (s : State) (f : Frame) (k : AgentId) (i : SourceIx), s.Sends f k [0x07#8, byteOf i.val] →
    (¬ s.Joined k → exec .done s = .next (s.answer f { status := .notJoined })) ∧
    (s.Joined k → s.mode ≠ .run → exec .done s = .next (s.answer f { status := .mode })) ∧
    (s.Joined k → s.mode = .run → ∀ a : Source, s.source i = some a → (∃ c ∈ (s.agent k).claims, c.source = i) →
      let t : State := { s with agents := s.agents.set k { s.agent k with
        claims := (s.agent k).claims.filter fun c => decide (c.source ≠ i) } }
      exec .done s = .next ((t.changeSource i Source.complete).answer f {
        status := .ok, report := [if a.active = true then 0x01#8 else 0x00#8] })) ∧
    (s.Joined k → s.mode = .run → (∀ c ∈ (s.agent k).claims, c.source ≠ i) → i ∈ (s.agent k).marks →
      exec .done s = .next (s.answer f { status := .late })) ∧
    (s.Joined k → s.mode = .run → (∀ c ∈ (s.agent k).claims, c.source ≠ i) → i ∉ (s.agent k).marks →
      exec .done s = .next (s.answer f { status := .notHeld }))

/-- The claim on a source is the one its agent's list holds (R71). SERVICE_TIMER_EXPIRY of a claim with a deadline: the
claim leaves the list, the source is reclaimed, the newest stale mark is added with the oldest dropped first at 8, the
reclaim is counted, and a STALE notice is put (R79, R80, R81, R84). A claim without a deadline has no timer (R78); that
the command does nothing for it, and for no claim, is the model's choice (log 2). -/
def Obligations.ServiceTimerExpires : Prop :=
  (∀ (a : Agent) (i : SourceIx), (a.claims.map Claim.source).Nodup →
    (∀ c : Claim, a.claimOn i = some c ↔ c ∈ a.claims ∧ c.source = i) ∧
    (a.claimOn i = none ↔ ∀ c ∈ a.claims, c.source ≠ i)) ∧
  (∀ (s : State) (k : AgentId) (i : SourceIx) (c : Claim), (s.agent k).claimOn i = some c → c.deadline ≠ none →
    let dropped : State := { s with agents := s.agents.set k { s.agent k with
      claims := (s.agent k).claims.filter fun d => decide (d.source ≠ i) } }
    let t := dropped.changeSource i (Source.reclaim c.consumed)
    let marks := (t.agent k).marks
    let marked : State := { t with agents := t.agents.set k { t.agent k with
      marks := (if marks.length < 8 then marks else marks.tail) ++ [i]
      reclaims := satSucc (t.agent k).reclaims } }
    exec (.serviceTimerExpiry k.val i.val) s = .next (marked.notify k (.stale i))) ∧
  ∀ (s : State) (k : AgentId) (i : SourceIx), (∀ c ∈ (s.agent k).claimOn i, c.deadline = none) →
    exec (.serviceTimerExpiry k.val i.val) s = .next s

/-- A notice goes to the tail of the list of an attached recipient, or at 8 notices is discarded with the notices-lost
flag set (R83, R84). MOVE_NOTICE moves the head of the list of the lowest-numbered agent that has one into the trunk
transmit queue, while that holds fewer than 30 frames, as a NOTICE with its LOST-BEFORE byte, and clears the flag
(R85, R170; for the choice of the list, log 7). With 30 frames queued no notice moves (R85); that the command does
nothing without a notice is the model's choice (log 2). -/
def Obligations.NoticesMove : Prop :=
  (∀ (s : State) (k : AgentId) (n : Notice),
    let a := s.agent k
    s.notify k n = { s with agents := s.agents.set k (
      if a.session = .detached then a
      else if a.notices.length < 8 then { a with notices := a.notices ++ [n] }
      else { a with noticesLost := true }) }) ∧
  (∀ (s : State) (n : Notice), (∀ k : AgentId, (s.notifyFlagged n).agent k =
      if (s.agent k).noticeFlag = true then (s.notify k n).agent k else s.agent k) ∧
    { s.notifyFlagged n with agents := s.agents } = s) ∧
  (∀ (s : State) (k : AgentId) (n : Notice) (rest : List Notice), s.trunk.queue.length < 30 →
    (s.agent k).notices = n :: rest → (∀ j : AgentId, j < k → (s.agent j).notices = []) →
    exec .moveNotice s = .next { s with
      trunk := { s.trunk with queue := s.trunk.queue ++ [{
        frame := Frame.sealed (0xE0#8 + BitVec.ofNat 8 k.val) (0xF0#8 + s.straps.setWidth 8) 0x13#8 0x00#8
          [n.kindByte, flagByte (s.agent k).noticesLost, n.argByte]
        restart := false }] }
      agents := s.agents.set k { s.agent k with notices := rest, noticesLost := false } }) ∧
  ∀ s : State, (30 ≤ s.trunk.queue.length ∨ ∀ k : AgentId, (s.agent k).notices = []) → exec .moveNotice s = .next s

/-! ## Promotion -/

/-- PUT-PROMOTION with the checks of R53 in order; the named slot takes the index, the reply reports the index it
named before, and every attached agent is re-evaluated (R53). CLEAR-PROMOTION empties the slot, reports the index it
named and re-evaluates every attached agent; a slot outside 0..3 changes nothing (R55). -/
def Obligations.PromotionRequests : Prop :=
  ((∀ (s : State) (f : Frame) (k : AgentId) (p : PromoSlot) (i : SourceIx),
     s.Sends f k [0x08#8, byteOf p.val, byteOf i.val] → s.Manages k →
     (s.source i = none → exec .putPromotion s = .next (s.answer f { status := .noEntry })) ∧
     ∀ a : Source, s.source i = some a →
       (a.config.rank = 0 ∨ a.config.rank = 7 →
         exec .putPromotion s = .next (s.answer f { status := .badArgument })) ∧
       (a.config.rank ≠ 0 → a.config.rank ≠ 7 → (∃ q : PromoSlot, q ≠ p ∧ s.promotion[q] = some i) →
         exec .putPromotion s = .next (s.answer f { status := .keyInUse })) ∧
       (a.config.rank ≠ 0 → a.config.rank ≠ 7 → (∀ q : PromoSlot, q ≠ p → s.promotion[q] ≠ some i) →
         let t : State := { s with promotion := s.promotion.set p (some i) }
         exec .putPromotion s = .next (t.reEvaluateAll.answer f {
           status := .ok
           report := match s.promotion[p] with
             | some j => [0x01#8, byteOf j.val]
             | none => [0x00#8, 0x00#8] }))) ∧
   ∀ (s : State) (f : Frame) (k : AgentId) (p i : Byte), s.Sends f k [0x08#8, p, i] → s.Manages k → 3 < p.toNat →
     exec .putPromotion s = .next (s.answer f { status := .badArgument })) ∧
  ((∀ (s : State) (f : Frame) (k : AgentId) (p : PromoSlot), s.Sends f k [0x09#8, byteOf p.val] → s.Manages k →
     let t : State := { s with promotion := s.promotion.set p none }
     exec .clearPromotion s = .next (t.reEvaluateAll.answer f {
       status := .ok
       report := match s.promotion[p] with
         | some j => [0x01#8, byteOf j.val]
         | none => [0x00#8, 0x00#8] })) ∧
   ∀ (s : State) (f : Frame) (k : AgentId) (p : Byte), s.Sends f k [0x09#8, p] → s.Manages k → 3 < p.toNat →
     exec .clearPromotion s = .next (s.answer f { status := .badArgument }))

/-! ## The source table -/

/-- PUT-SOURCE of a vacant index with a free key and a present node loads it: the record of R7, then the re-evaluation
(R7, R8, R9). PUT-SOURCE of an index loaded with the same key updates its configuration and nothing else of the
source, but for a class change: merge count 0 and the pending condition evaluated (R8, R10, R11, R12). -/
def Obligations.PutSourceLoadsOrUpdates : Prop :=
  (∀ (s : State) (f : Frame) (k : AgentId) (i : SourceIx) (g : SourceConfig) (r : Node),
     s.Sends f k (0x0A#8 :: sourceBytes i g) → s.Manages k → g.rank ≠ 0 → s.source i = none →
     (∀ (j : SourceIx) (b : Source), s.source j = some b →
       ¬ (b.config.node = g.node ∧ b.config.channel = g.channel)) →
     s.node g.node = some r → (g.rank = 7 → g.cls = .edge) →
     let asserted := decide (g.node = 0) && decide (s.mode = .run) && (s.contacts[g.channel]).active
     let t : State := { s with sources := s.sources.set i (some {
       config := g
       status := if g.cls = .level ∧ asserted = true then .pending else .idle
       reasons := { edgeOwed := false, latched := false, asserted := asserted, forced := false }
       uncertain := decide (r.state ≠ .synced)
       merge := 0#8 }) }
     exec .putSource s = .next (t.reEvaluateAll.answer f { status := .ok, report := [0x00#8] })) ∧
  (∀ (s : State) (f : Frame) (k : AgentId) (i : SourceIx) (g : SourceConfig) (a : Source),
     s.Sends f k (0x0A#8 :: sourceBytes i g) → s.Manages k → g.rank ≠ 0 → s.source i = some a →
     a.config.node = g.node → a.config.channel = g.channel → s.KeyLaw → (g.rank = 7 → g.cls = .edge) →
     (g.cls ≠ a.config.cls → a.status = .idle) → (g.rank = 7 → ∀ p : PromoSlot, s.promotion[p] ≠ some i) →
     let b : Source := { a with config := g }
     let t : State := { s with sources := s.sources.set i (some
       (if g.cls = a.config.cls then b
        else { b with merge := 0#8, status := if b.active = true then .pending else .idle })) }
     exec .putSource s = .next (t.reEvaluateAll.answer f { status := .ok, report := [0x01#8] }))

/-- The seven checks of R8 in order: the first that fails decides the status, and nothing changes. -/
def Obligations.PutSourceRefusals : Prop :=
  (∀ (s : State) (f : Frame) (k : AgentId) (i n c cl tr rk o ro b : Byte),
    s.Sends f k [0x0A#8, i, n, c, cl, tr, rk, o, ro, b] → s.Manages k →
    (63 < n.toNat ∨ 15 < c.toNat ∨ 1 < cl.toNat ∨ 2 < tr.toNat ∨ rk.toNat = 0 ∨ 7 < rk.toNat ∨ 15 < o.toNat ∨
      15 < ro.toNat ∨ 1 < b.toNat) →
    exec .putSource s = .next (s.answer f { status := .badArgument })) ∧
  ∀ (s : State) (f : Frame) (k : AgentId) (i : SourceIx) (g : SourceConfig),
    s.Sends f k (0x0A#8 :: sourceBytes i g) → s.Manages k → g.rank ≠ 0 →
    let answered (st : ReplyStatus) : Prop := exec .putSource s = .next (s.answer f { status := st })
    let step2 := ∀ a ∈ s.source i, a.config.node = g.node ∧ a.config.channel = g.channel
    let step3 := ∀ (j : SourceIx), j ≠ i → ∀ b ∈ s.source j, ¬ (b.config.node = g.node ∧ b.config.channel = g.channel)
    let step4 := (s.node g.node).isSome = true
    let step5 := g.rank = 7 → g.cls = .edge
    let step6 := ∀ a ∈ s.source i, g.cls = a.config.cls ∨ a.status = .idle
    let step7 := ∀ a ∈ s.source i, g.rank = 7 → ∀ p : PromoSlot, s.promotion[p] ≠ some i
    (¬ step2 → answered .indexInUse) ∧
    (step2 → ¬ step3 → answered .keyInUse) ∧
    (step2 → step3 → ¬ step4 → answered .noEntry) ∧
    (step2 → step3 → step4 → ¬ step5 → answered .badArgument) ∧
    (step2 → step3 → step4 → step5 → ¬ step6 → answered .sourceBusy) ∧
    (step2 → step3 → step4 → step5 → step6 → ¬ step7 → answered .badArgument)

/-- DROP-SOURCE makes a loaded index vacant whatever its state, empties the promotion entries that name it, withdraws
the claim of a HELD source with a WITHDRAWN notice to its holder, re-evaluates, and reports the state it had; a vacant
index is NO_ENTRY (R13, R14, R15, R16). -/
def Obligations.DropSourceVacates : Prop :=
  ∀ (s : State) (f : Frame) (k : AgentId) (i : SourceIx), s.Sends f k [0x0B#8, byteOf i.val] → s.Manages k →
    (s.source i = none → exec .dropSource s = .next (s.answer f { status := .noEntry })) ∧
    ∀ a : Source, s.source i = some a →
      let t : State := { s with
        sources := s.sources.set i none
        promotion := s.promotion.map fun o => if o = some i then none else o }
      ((∀ h : AgentId, a.status ≠ .held h) →
        exec .dropSource s = .next (t.reEvaluateAll.answer f { status := .ok, report := [a.status.byte] })) ∧
      ∀ h : AgentId, a.status = .held h →
        let u : State := { t with agents := s.agents.set h { s.agent h with
          claims := (s.agent h).claims.filter fun c => decide (c.source ≠ i) } }
        exec .dropSource s =
          .next ((u.notify h (.withdrawn i)).reEvaluateAll.answer f { status := .ok, report := [0x02#8] })

/-- BLOCK sets and UNBLOCK clears the blocked flag of a loaded source in any state, with a re-evaluation exactly when
the flag changed; a vacant index is NO_ENTRY (R18, R19). -/
def Obligations.BlockAndUnblock : Prop :=
  ∀ (s : State) (f : Frame) (k : AgentId) (i : SourceIx) (v : Bool), s.Manages k →
    s.Sends f k [if v = true then 0x0C#8 else 0x0D#8, byteOf i.val] →
    let command : Instr := if v = true then .block else .unblock
    (s.source i = none → exec command s = .next (s.answer f { status := .noEntry })) ∧
    ∀ a : Source, s.source i = some a →
      let t : State := { s with
        sources := s.sources.set i (some { a with config := { a.config with blocked := v } }) }
      (a.config.blocked = v → exec command s = .next (t.answer f { status := .ok })) ∧
      (a.config.blocked ≠ v → exec command s = .next (t.reEvaluateAll.answer f { status := .ok }))

/-- FORCE, in RUN, sets and RELEASE, in either mode, clears forced on a loaded source, and reports the state after; a
vacant index is NO_ENTRY (R38, R39). -/
def Obligations.ForceAndRelease : Prop :=
  ∀ (s : State) (f : Frame) (k : AgentId) (i : SourceIx) (v : Bool), s.Manages k → (v = true → s.mode = .run) →
    s.Sends f k [if v = true then 0x0F#8 else 0x10#8, byteOf i.val] →
    let command : Instr := if v = true then .force else .release
    (s.source i = none → exec command s = .next (s.answer f { status := .noEntry })) ∧
    ∀ a : Source, s.source i = some a →
      exec command s = .next ((s.changeSource i (Source.setForced v)).answer f {
        status := .ok, report := [(a.setForced v).status.byte] })

/-! ## The node table -/

/-- In RUN with the field port UP the free slots take the oldest waiting nodes in order, lowest slot first, each
RESYNCING with attempts used 0 and owing its query; otherwise no slot takes a node (R100). -/
def Obligations.SlotsTakeOldest : Prop :=
  (∀ s : State, ¬ (s.mode = .run ∧ s.field.link = .up) → s.fillSlots = s) ∧
  ∀ s : State, s.mode = .run → s.field.link = .up → s.waitList.Nodup →
    let free := (List.finRange 4).filter fun j => (s.slots[j]).isNone
    let t := s.fillSlots
    t.waitList = s.waitList.drop free.length ∧
    (∀ j : SlotId, t.slots[j] =
      if s.slots[j] = none then (s.waitList[free.idxOf j]?).map fun n => { node := n, phase := .queryOwed }
      else s.slots[j]) ∧
    (∀ n : NodeId, t.node n =
      if n ∈ s.waitList.take free.length then
        (s.node n).map fun r => { r with state := .resyncing, attempts := 0 }
      else s.node n) ∧
    { t with waitList := s.waitList, slots := s.slots, nodes := s.nodes } = s

/-- PUT-NODE creates a node that is not present, WAITING at the tail of the wait list, and free slots take nodes; for
a present node it sets the loss source alone; a node id outside 0..63 or an undefined flag is BAD_ARGUMENT (R109,
R168). DROP-NODE with the checks of R110 in order: the node leaves the wait list and its slot, its record is not
present, free slots take nodes, and the reply reports the state it had (R110). -/
def Obligations.PutAndDropNode : Prop :=
  ((∀ (s : State) (f : Frame) (k : AgentId) (n : NodeId) (present : Bool) (i : SourceIx),
     s.Sends f k [0x11#8, byteOf n.val, flagByte present, byteOf i.val] → s.Manages k →
     let loss := if present = true then some i else none
     (∀ r : Node, s.node n = some r →
       let t : State := { s with nodes := s.nodes.set n (some { r with lossSource := loss }) }
       exec .putNode s = .next (t.answer f { status := .ok, report := [0x01#8] })) ∧
     (s.node n = none →
       let t : State := { s with
         nodes := s.nodes.set n (some {
           lossSource := loss, state := .waiting, expected := 0#8, attempts := 0, wasLost := false, gaps := 0#16,
           unmapped := 0#16 })
         waitList := s.waitList ++ [n] }
       exec .putNode s = .next (t.fillSlots.answer f { status := .ok, report := [0x00#8] }))) ∧
   ∀ (s : State) (f : Frame) (k : AgentId) (n p i : Byte), s.Sends f k [0x11#8, n, p, i] → s.Manages k →
     (63 < n.toNat ∨ 1 < p.toNat) → exec .putNode s = .next (s.answer f { status := .badArgument })) ∧
  ((∀ (s : State) (f : Frame) (k : AgentId) (b : Byte), s.Sends f k [0x12#8, b] → s.Manages k →
     (b.toNat = 0 ∨ 63 < b.toNat) → exec .dropNode s = .next (s.answer f { status := .badArgument })) ∧
   ∀ (s : State) (f : Frame) (k : AgentId) (n : NodeId), s.Sends f k [0x12#8, byteOf n.val] → s.Manages k → n ≠ 0 →
     (s.node n = none → exec .dropNode s = .next (s.answer f { status := .noEntry })) ∧
     ∀ r : Node, s.node n = some r →
       ((∃ (i : SourceIx) (a : Source), s.source i = some a ∧ a.config.node = n) →
         exec .dropNode s = .next (s.answer f { status := .nodeInUse })) ∧
       ((∀ (i : SourceIx) (a : Source), s.source i = some a → a.config.node ≠ n) →
         let t : State := { s with
           waitList := s.waitList.filter fun m => decide (m ≠ n)
           slots := s.slots.map fun o => o.filter fun e => decide (e.node ≠ n)
           nodes := s.nodes.set n none }
         exec .dropNode s = .next (t.fillSlots.answer f { status := .ok, report := [r.state.byte] })))

/-- READ-NODE and READ-PART report the record as it stands; with the clear option, which needs the role, the counts are
set to 0 after the report, and nothing else changes; READ-NODE counts the loaded sources keyed to the node (R111, R137,
R169). -/
def Obligations.ReadNodeAndPart : Prop :=
  (∀ (s : State) (f : Frame) (k : AgentId) (n : NodeId) (clear : Bool) (r : Node),
    s.Sends f k [0x13#8, byteOf n.val, flagByte clear] → (clear = true → s.role = some k) → s.WaitLaw →
    s.node n = some r →
    let keyed : Nat := (List.finRange 256).countP fun i => (s.source i).any fun a => decide (a.config.node = n)
    let t : State := if clear = true then { s with nodes := s.nodes.set n (some { r with gaps := 0#16, unmapped := 0#16 }) }
      else s
    ∃ phase : Byte, (r.state ≠ .resyncing → phase = 0x00#8) ∧
      (r.state = .resyncing → ∃ (j : SlotId) (e : Slot), s.slots[j] = some e ∧ e.node = n ∧ phase = e.phase.byte) ∧
      exec .readNode s = .next (t.answer f {
        status := .ok
        report := [r.state.byte, byteOf (if r.state = .waiting then s.waitList.idxOf n + 1 else 0), phase, r.expected,
            byteOf r.attempts, flagByte r.wasLost] ++
          (match r.lossSource with
            | some i => [0x01#8, byteOf i.val]
            | none => [0x00#8, 0x00#8]) ++
          halfBytes r.gaps ++ halfBytes r.unmapped ++ [byteOf keyed] })) ∧
  (∀ (s : State) (f : Frame) (k : AgentId) (n : NodeId) (clear : Bool),
    s.Sends f k [0x13#8, byteOf n.val, flagByte clear] → (clear = true → s.role = some k) → s.node n = none →
    exec .readNode s = .next (s.answer f { status := .noEntry })) ∧
  (∀ (s : State) (f : Frame) (k : AgentId) (n : Byte) (clear : Bool), s.Sends f k [0x13#8, n, flagByte clear] →
    (clear = true → s.role = some k) → 63 < n.toNat →
    exec .readNode s = .next (s.answer f { status := .badArgument })) ∧
  ∀ (s : State) (f : Frame) (k : AgentId) (clear : Bool), s.Sends f k [0x16#8, flagByte clear] →
    (clear = true → s.role = some k) →
    let c := s.counters
    let t : State := if clear = true then { s with counters := {
      trunkChecks := 0#16, fieldChecks := 0#16, foreign := 0#16, stray := 0#16, misdirected := 0#16,
      droppedToTrunk := 0#16, flushed := 0#16 } } else s
    exec .readPart s = .next (t.answer f {
      status := .ok
      report := [s.mode.byte, flagByte s.retained,
          (match s.role with
            | some j => byteOf j.val
            | none => 0xFF#8),
          0x01#8, 0xF0#8 + s.straps.setWidth 8, byteOf s.resyncWait, byteOf s.resyncTries] ++
        halfBytes c.trunkChecks ++ halfBytes c.fieldChecks ++ halfBytes c.foreign ++ halfBytes c.stray ++
        halfBytes c.misdirected ++ halfBytes c.droppedToTrunk ++ halfBytes c.flushed })

/-- Table 5-2: what an EVT of a present field node does in each state of the node, with the transition applied to the
source keyed to its channel or counted as unmapped, the gap, the wait list, the uncertain flags of the node's sources
and the GAP notice (R30, R93 to R98); after a gap and after a report of a LOST node the free slots take nodes (R100). -/
def Obligations.EventReports : Prop :=
  (∀ (s : State) (n : NodeId) (c : Channel) (t : Transition), s.KeyLaw →
    (∀ (i : SourceIx) (a : Source), s.source i = some a → a.config.node = n → a.config.channel = c →
      s.nodeTransition n c t = s.changeSource i (Source.transition t)) ∧
    ((∀ (i : SourceIx) (a : Source), s.source i = some a → ¬ (a.config.node = n ∧ a.config.channel = c)) →
      ∀ r : Node, s.node n = some r → s.nodeTransition n c t =
        { s with nodes := s.nodes.set n (some { r with unmapped := satSucc r.unmapped }) })) ∧
  ∀ (s : State) (f : Frame) (n : NodeId) (r : Node) (c : Channel) (t : Transition) (q : Byte),
    s.Intakes f → f.kind = 0x02#8 → n ≠ 0 → f.orig = byteOf n.val → s.node n = some r →
    f.payload = [byteOf c.val,
      (match t with
        | .raise => 0x01#8
        | .fall => 0x02#8
        | .pulse => 0x03#8), q] →
    let taken : State := { s with field := s.field.finishHead }
    let node (u : State) (g : Node → Node) : State := { u with nodes := u.nodes.set n ((u.node n).map g) }
    let inOrder := node (taken.nodeTransition n c t) fun x => { x with expected := q + 1#8 }
    let gapped := node ((node taken fun x => { x with gaps := satSucc x.gaps }).nodeTransition n c t)
      fun x => { x with expected := q + 1#8 }
    let queued (u : State) : State :=
      { node u (fun x => { x with state := .waiting }) with waitList := u.waitList ++ [n] }
    let uncertain (u : State) : State := { u with sources := Vector.ofFn fun i => (u.source i).map fun a =>
      if a.config.node = n then { a with uncertain := true } else a }
    (r.state = .synced → q = r.expected → exec .evt s = .next inOrder) ∧
    (r.state = .synced → q ≠ r.expected →
      exec .evt s = .next (((uncertain (queued gapped)).notifyFlagged (.gap n)).fillSlots)) ∧
    (r.state = .waiting ∨ r.state = .resyncing → q = r.expected → exec .evt s = .next inOrder) ∧
    (r.state = .waiting ∨ r.state = .resyncing → q ≠ r.expected → exec .evt s = .next gapped) ∧
    (r.state = .lost → exec .evt s = .next (queued inOrder).fillSlots)

/-- A STATE of a present field node: the level of each channel, in ascending channel order, reaches the source keyed to
it, the uncertain flags of the node's sources are cleared, the expected sequence is as reported, the node SYNCED, its
place on the list or its slot released, REGAINED made when it was lost, and free slots take nodes (R30, R37, R93, R105,
R106, R100). -/
def Obligations.StateReports : Prop :=
  (∀ (s : State) (n : NodeId) (level : Channel → Bool), s.nodeLevels n level =
    (List.finRange 16).foldl (State.nodeLevel n level) s) ∧
  (∀ (s : State) (n : NodeId) (level : Channel → Bool) (c : Channel), s.KeyLaw →
    (∀ (i : SourceIx) (a : Source), s.source i = some a → a.config.node = n → a.config.channel = c →
      s.nodeLevel n level c = s.changeSource i (Source.takeLevel (level c))) ∧
    ((∀ (i : SourceIx) (a : Source), s.source i = some a → ¬ (a.config.node = n ∧ a.config.channel = c)) →
      s.nodeLevel n level c = s)) ∧
  ∀ (s : State) (f : Frame) (n : NodeId) (r : Node) (hi lo q : Byte),
    s.Intakes f → f.kind = 0x03#8 → n ≠ 0 → f.orig = byteOf n.val → s.node n = some r → f.payload = [hi, lo, q] →
    let level (c : Channel) : Bool := if c.val < 8 then lo.getLsbD c.val else hi.getLsbD (c.val - 8)
    let taken : State := { s with field := s.field.finishHead }
    let levelled := taken.nodeLevels n level
    let synced : State := { levelled with
      sources := Vector.ofFn fun i => (levelled.source i).map fun a =>
        if a.config.node = n then { a with uncertain := false } else a
      nodes := levelled.nodes.set n ((levelled.node n).map fun x =>
        { x with expected := q, state := .synced, wasLost := false }) }
    let released : State := { synced with
      waitList := synced.waitList.filter fun m => decide (m ≠ n)
      slots := synced.slots.map fun o => o.filter fun e => decide (e.node ≠ n) }
    exec .state s =
      .next (if r.wasLost = true then (released.notifyFlagged (.regained n)).fillSlots else released.fillSlots)

/-- The lowest slot that owes a query places a SYNCQ to its node while the field transmit queue holds fewer than 16
frames, and enters query queued; with 16 frames queued no SYNCQ is placed (R101, R166). That the command does nothing
when no slot owes a query is the model's choice (log 2). -/
def Obligations.PlaceSyncqQueuesQuery : Prop :=
  (∀ (s : State) (j : SlotId) (e : Slot), s.slots[j] = some e → e.phase = .queryOwed →
    (∀ m : SlotId, m < j → ∀ g ∈ s.slots[m], g.phase ≠ .queryOwed) → s.field.queue.length < 16 →
    exec .placeSyncq s = .next { s with
      field := { s.field with queue := s.field.queue ++ [{
        frame := Frame.sealed (byteOf e.node.val) (0xF0#8 + s.straps.setWidth 8) 0x04#8 0x00#8 []
        restart := false }] }
      slots := s.slots.set j (some { e with phase := .queryQueued }) }) ∧
  ∀ s : State, (16 ≤ s.field.queue.length ∨ ∀ j : SlotId, ∀ e ∈ s.slots[j], e.phase ≠ .queryOwed) →
    exec .placeSyncq s = .next s

/-- RESYNC_WAIT_EXPIRY: with attempts left the slot owes a further query; otherwise the node is LOST, its slot free, its
was-lost flag set, a LOST notice made, one PULSE applied to a loaded loss source, and free slots take nodes (R103,
R104, R100). That the command does nothing for a slot that is not waiting is the model's choice (log 2). -/
def Obligations.WaitTimerExpires : Prop :=
  (∀ (s : State) (j : SlotId) (e : Slot) (length : Nat) (r : Node), s.slots[j] = some e → e.phase = .waiting length →
    s.node e.node = some r →
    (r.attempts < s.resyncTries → exec (.resyncWaitExpiry j.val) s =
      .next { s with slots := s.slots.set j (some { e with phase := .queryOwed }) }) ∧
    (s.resyncTries ≤ r.attempts →
      let lost : State := { s with
        nodes := s.nodes.set e.node (some { r with state := .lost, wasLost := true })
        slots := s.slots.set j none }
      let told := lost.notifyFlagged (.lost e.node)
      (r.lossSource = none → exec (.resyncWaitExpiry j.val) s = .next told.fillSlots) ∧
      ∀ i : SourceIx, r.lossSource = some i →
        exec (.resyncWaitExpiry j.val) s = .next (told.changeSource i (Source.transition .pulse)).fillSlots)) ∧
  ∀ (s : State) (j : SlotId), (∀ e ∈ s.slots[j], ∀ length : Nat, e.phase ≠ .waiting length) →
    exec (.resyncWaitExpiry j.val) s = .next s

/-! ## Contact inputs -/

/-- The filter of an input: SETTLED, OPENING, SETTLING and OFF at a sample event, and when an input is active (R116,
R117, R118). SAMPLE_EVENT: the pins are read, every input's filter takes its reading, and in RUN each change of
activity is a transition of node 0 (R116 to R119; for the order of the inputs, log 17). With RSTn low nothing happens
(R147). In STANDBY nothing but the input records changes (R119, R124). -/
def Obligations.SampleEventsRunFilters : Prop :=
  (∀ (c : Contact) (pin : Bool),
     (c.filter = .off → c.sample pin = c) ∧
     (c.filter = .opening → c.sample pin = { c with filter := .settled pin 0 }) ∧
     (∀ (runLevel : Option Bool) (run : Nat), c.filter = .settling runLevel run →
       let count := if runLevel = some pin then run + 1 else 1
       c.sample pin = { c with
         filter := if count = c.length.val + 1 then .settled pin 0 else .settling (some pin) count }) ∧
     (∀ (level : Bool) (run : Nat), c.filter = .settled level run → c.sample pin = { c with
       filter := if pin = level then .settled level 0
         else if run + 1 = c.length.val + 1 then .settled pin 0
         else .settled level (run + 1) }) ∧
     (c.active = true ↔ ∃ run : Nat, c.filter = .settled (!c.invert) run)) ∧
  ((∀ (s : State) (levels : BitVec 16), s.pins.rstn = false → exec (.sampleEvent levels) s = .next s) ∧
   (∀ (s : State) (levels : BitVec 16), s.pins.rstn = true → s.mode = .standby →
     exec (.sampleEvent levels) s = .next { s with
       pins := { s.pins with cin := levels }
       contacts := Vector.ofFn fun n => (s.contacts[n]).sample (levels.getLsbD n.val) }) ∧
   ∀ (s : State) (levels : BitVec 16), s.pins.rstn = true → s.mode = .run →
     exec (.sampleEvent levels) s = .next ((List.finRange 16).foldl (fun (u : State) (n : Channel) =>
       let before := (u.contacts[n]).active
       let v : State := { u with contacts := u.contacts.set n ((u.contacts[n]).sample (levels.getLsbD n.val)) }
       let after := (v.contacts[n]).active
       if before = false ∧ after = true then v.nodeTransition 0 n .raise
       else if before = true ∧ after = false then v.nodeTransition 0 n .fall
       else v) { s with pins := { s.pins with cin := levels } }))

/-- SET-CONTACT stores invert and filter length, moves the filter state as R121 and R122 give, reports a change of
activity in RUN, and replies with the record; a field out of range changes nothing (R120, R121, R122). -/
def Obligations.SetContactConfigures : Prop :=
  (∀ (s : State) (f : Frame) (k : AgentId) (n : Channel) (enabled invert : Bool) (length : Fin 16),
    s.Sends f k [0x14#8, byteOf n.val, flagByte enabled, flagByte invert, byteOf length.val] → s.Manages k →
    let old := s.contacts[n]
    let filter : Filter := if enabled = false then .off else match old.filter with
      | .off => .opening
      | .opening => .opening
      | .settling runLevel run => if length = old.length then .settling runLevel run else .settling none 0
      | .settled level run => if length = old.length then .settled level run else .settled level 0
    let new : Contact := { invert := invert, length := length, filter := filter }
    let t : State := { s with contacts := s.contacts.set n new }
    let u : State := if s.mode = .standby then t
      else if old.active = false ∧ new.active = true then t.nodeTransition 0 n .raise
      else if old.active = true ∧ new.active = false then t.nodeTransition 0 n .fall
      else t
    exec .setContact s = .next (u.answer f {
      status := .ok
      report := [flagByte enabled, flagByte invert, byteOf length.val,
        (match filter with
          | .off => 0x00#8
          | .opening => 0x01#8
          | .settling _ _ => 0x02#8
          | .settled _ _ => 0x03#8), flagByte new.active] })) ∧
  ∀ (s : State) (f : Frame) (k : AgentId) (n e v l : Byte), s.Sends f k [0x14#8, n, e, v, l] → s.Manages k →
    (15 < n.toNat ∨ 1 < e.toNat ∨ 1 < v.toNat ∨ 15 < l.toNat) →
    exec .setContact s = .next (s.answer f { status := .badArgument })

/-! ## The part -/

/-- SET-TIMING stores both values and replies with them; a resync wait outside 1..255 or tries outside 1..7 changes
nothing (R135). -/
def Obligations.SetTimingStores : Prop :=
  ∀ (s : State) (f : Frame) (k : AgentId) (w t : Byte), s.Sends f k [0x15#8, w, t] → s.Manages k →
    (1 ≤ w.toNat → 1 ≤ t.toNat → t.toNat ≤ 7 →
      exec .setTiming s = .next (({ s with resyncWait := w.toNat, resyncTries := t.toNat } : State).answer f {
        status := .ok, report := [w, t] })) ∧
    (w.toNat = 0 ∨ t.toNat = 0 ∨ 7 < t.toNat → exec .setTiming s = .next (s.answer f { status := .badArgument }))

/-- RESUME in STANDBY: RUN with the retained flag clear, the refresh of node 0 in ascending channel order, the eight
field buffers lent with eight CREDIT symbols where the port sends symbols, and the slots take nodes when the field port
is UP (R143, R124, R152, R100). -/
def Obligations.ResumeEntersRun : Prop :=
  ∀ (s : State) (f : Frame) (k : AgentId), s.Sends f k [0x17#8] → s.Manages k → s.mode = .standby →
    let running : State := { s with mode := .run, retained := false }
    let refreshed := running.nodeLevels 0 fun c => (s.contacts[c]).active
    let symbols := s.field.link = .announcing ∨ s.field.link = .up
    let lent : State := { refreshed with field := { s.field with
      creditGiven := 8
      creditsOwed := if symbols ∧ s.field.sending ≠ none then s.field.creditsOwed + 8 else s.field.creditsOwed
      sent := if symbols ∧ s.field.sending = none then s.field.sent ++ List.replicate 8 LineItem.credit
        else s.field.sent } }
    exec .resume s = .next (lent.fillSlots.answer f { status := .ok, report := [0x01#8, 0x00#8] })

/-- RESTART changes nothing but its reply, which carries the mode before the reset and is marked; the mark keeps every
later trunk frame waiting (R145). -/
def Obligations.RestartMarksReply : Prop :=
  ∀ (s : State) (f : Frame) (k : AgentId), s.Sends f k [0x18#8] → s.Manages k →
    let t := s.answer f { status := .ok, report := [s.mode.byte], restart := true }
    exec .restart s = .next t ∧
      (∀ c : ReqCode, exec c.row t = .next t) ∧ exec .undefinedRequestCode t = .next t ∧
      exec .foreignFrame t = .next t ∧ exec .trunkDataTaken t = .next t

/-! ## Frames on their way -/

/-- Table 7-1 for frames that are no request: foreign frames are dropped and counted; trunk DATA for a node that is not
present is dropped as misdirected, and for a present one it is taken in hand and enters the field transmit queue
unchanged while that holds fewer than 12 (R126, R127, R128). That FOREIGN_FRAME does nothing when another frame is at
the head, and TRUNK_DATA_PLACED when none is in hand, is the model's choice (log 2). -/
def Obligations.TrunkFramesSorted : Prop :=
  (∀ (s : State) (f : Frame), s.Takes f →
    let forwarded := 1 ≤ f.dest.toNat ∧ f.dest.toNat ≤ 63 ∧ f.kind = 0x01#8
    let request := f.dest = 0xF0#8 + s.straps.setWidth 8 ∧ f.kind = 0x10#8 ∧ 0xE0 ≤ f.orig.toNat ∧ f.orig.toNat ≤ 0xE3
    (¬ forwarded → ¬ request → exec .foreignFrame s = .next { s with
      trunk := s.trunk.finishHead
      counters := { s.counters with foreign := satSucc s.counters.foreign } }) ∧
    (forwarded ∨ request → exec .foreignFrame s = .next s)) ∧
  (∀ (s : State) (f : Frame) (n : NodeId), s.Takes f → n ≠ 0 → f.dest = byteOf n.val → f.kind = 0x01#8 →
    (s.node n = none → exec .trunkDataTaken s = .next { s with
      trunk := s.trunk.finishHead
      counters := { s.counters with misdirected := satSucc s.counters.misdirected } }) ∧
    (s.node n ≠ none → exec .trunkDataTaken s = .next { s with trunk := { s.trunk with hold := true } })) ∧
  (∀ (s : State) (f : Frame), s.trunk.hold = true → s.trunk.rx.head? = some f → s.field.queue.length < 12 →
    exec .trunkDataPlaced s = .next { s with
      trunk := s.trunk.finishHead
      field := { s.field with queue := s.field.queue ++ [{ frame := f, restart := false }] } }) ∧
  ∀ s : State, (s.trunk.hold = false ∨ s.trunk.rx = [] ∨ 12 ≤ s.field.queue.length) →
    exec .trunkDataPlaced s = .next s

/-- Field frames that no node report comes of: malformed reports, reports and DATA from no present field node, and
other kinds are strays, dropped and counted (R94, R106, R159, R160, R167). Field DATA of a present node is dropped and
counted while the trunk port is not UP, otherwise taken in hand; the frame in hand enters the trunk transmit queue
unchanged while that holds fewer than 20 (R160). Every field frame waits, and nothing changes, in STANDBY, while the
field port is not UP (log 6), while a frame is in hand and while nothing is buffered (R141, R159, R160). That a row
does nothing when another kind of frame is at the head, and FIELD_DATA_PLACED when none is in hand, is the model's
choice (log 2). -/
def Obligations.FieldFramesSorted : Prop :=
  (∀ s : State, s.mode = .standby ∨ s.field.link ≠ .up ∨ s.field.hold = true ∨ s.field.rx = [] →
     ∀ c ∈ [Instr.evt, .state, .fieldDataTaken, .strayFrame], exec c s = .next s) ∧
  (∀ (s : State) (f : Frame), s.Intakes f →
     (f.kind ≠ 0x02#8 → exec .evt s = .next s) ∧ (f.kind ≠ 0x03#8 → exec .state s = .next s) ∧
     (f.kind ≠ 0x01#8 → exec .fieldDataTaken s = .next s) ∧
     (f.kind = 0x01#8 ∨ f.kind = 0x02#8 ∨ f.kind = 0x03#8 → exec .strayFrame s = .next s)) ∧
  (∀ (s : State) (f : Frame), s.Intakes f →
     let dropped : State := { s with
       field := s.field.finishHead
       counters := { s.counters with stray := satSucc s.counters.stray } }
     let unknown := ∀ n : NodeId, n ≠ 0 → f.orig = byteOf n.val → s.node n = none
     let goodEvt := ∃ c t q : Byte, f.payload = [c, t, q] ∧ c.toNat ≤ 15 ∧ 1 ≤ t.toNat ∧ t.toNat ≤ 3
     (f.kind = 0x02#8 → unknown ∨ ¬ goodEvt → exec .evt s = .next dropped) ∧
     (f.kind = 0x03#8 → unknown ∨ f.payload.length ≠ 3 → exec .state s = .next dropped) ∧
     (f.kind = 0x01#8 → unknown → exec .fieldDataTaken s = .next dropped) ∧
     (f.kind ≠ 0x01#8 → f.kind ≠ 0x02#8 → f.kind ≠ 0x03#8 → exec .strayFrame s = .next dropped)) ∧
  ((∀ (s : State) (f : Frame) (n : NodeId), s.Intakes f → f.kind = 0x01#8 → n ≠ 0 → f.orig = byteOf n.val →
     s.node n ≠ none →
     (s.trunk.link ≠ .up → exec .fieldDataTaken s = .next { s with
       field := s.field.finishHead
       counters := { s.counters with droppedToTrunk := satSucc s.counters.droppedToTrunk } }) ∧
     (s.trunk.link = .up → exec .fieldDataTaken s = .next { s with field := { s.field with hold := true } })) ∧
   (∀ (s : State) (f : Frame), s.field.hold = true → s.field.rx.head? = some f → s.trunk.queue.length < 20 →
     exec .fieldDataPlaced s = .next { s with
       field := s.field.finishHead
       trunk := { s.trunk with queue := s.trunk.queue ++ [{ frame := f, restart := false }] } }) ∧
   ∀ s : State, (s.field.hold = false ∨ s.field.rx = [] ∨ 20 ≤ s.trunk.queue.length) →
     exec .fieldDataPlaced s = .next s)

/-! ## Transmitters and ports -/

/-- The trunk transmitter: flags whose rank is the last one sent are cleared without a frame, the first other flag
gives an ALERT at a cost of one credit, and without one the head of the queue is sent (R88, R163, R166, R170). The
field transmitter sends the head of its queue when the port is UP, has credit and is not sending (R164, R154). -/
def Obligations.TransmittersChoose : Prop :=
  ((∀ (s : State) (k : AgentId), s.trunk.link = .up → 0 < s.trunk.sendCredit → s.trunk.sending = none →
     (s.agent k).alert = true → s.attention k ≠ (s.agent k).lastSent →
     (∀ j : AgentId, j < k → (s.agent j).alert = true → s.attention j = (s.agent j).lastSent) →
     exec .trunkTransmitter s = .next { s with
       agents := Vector.ofFn fun j =>
         if j < k then { s.agent j with alert := false }
         else if j = k then { s.agent j with alert := false, lastSent := s.attention k }
         else s.agent j
       trunk := { s.trunk with
         sendCredit := s.trunk.sendCredit - 1
         sending := some (.alert (Frame.sealed (0xE0#8 + BitVec.ofNat 8 k.val) (0xF0#8 + s.straps.setWidth 8) 0x12#8
           0x00#8 [byteOf (s.attention k).val])) } }) ∧
   (∀ s : State, s.trunk.link = .up → 0 < s.trunk.sendCredit → s.trunk.sending = none →
     (∀ j : AgentId, (s.agent j).alert = true → s.attention j = (s.agent j).lastSent) →
     exec .trunkTransmitter s = .next { s with
       agents := Vector.ofFn fun j => { s.agent j with alert := false }
       trunk := if s.trunk.queue = [] then s.trunk
         else { s.trunk with sendCredit := s.trunk.sendCredit - 1, sending := some .head } }) ∧
   ∀ s : State, (s.trunk.link ≠ .up ∨ s.trunk.sendCredit = 0 ∨ s.trunk.sending ≠ none) →
     exec .trunkTransmitter s = .next s) ∧
  (∀ s : State,
     let ready := s.field.link = .up ∧ 0 < s.field.sendCredit ∧ s.field.sending = none ∧ s.field.queue ≠ []
     (ready → exec .fieldTransmitter s = .next { s with
       field := { s.field with sendCredit := s.field.sendCredit - 1, sending := some .head } }) ∧
     (¬ ready → exec .fieldTransmitter s = .next s))

/-- FRAME_TRANSMITTED: the frame has gone out, the CREDITs that waited follow it, and the head leaves its queue; the
marked reply of a RESTART starts the warm reset, which ends at once: what WARM_RESET and RESET_END do, but for the RSTn
pin, which stays as it was; a SYNCQ counts an attempt and starts the wait timer of the slot that holds its node in
query queued (R102, R145, R147, R152, R154). Three clauses are the model's choice: nothing happens when no frame is
being sent (log 2), the command carries the straps the reset of a RESTART reads (log 14), and CREDITs that waited for
the marked reply are sent before that reset (log 21). -/
def Obligations.FrameTransmittedActs : Prop :=
  (∀ (s : State) (v : BitVec 3) (p : PortId), (s.line p).sending = none → exec (.frameTransmitted p v) s = .next s) ∧
  (∀ (s : State) (v : BitVec 3) (f : Frame), s.trunk.sending = some (.alert f) →
    exec (.frameTransmitted .trunk v) s = .next { s with trunk := { s.trunk with
      sending := none
      creditsOwed := 0
      sent := s.trunk.sent ++ LineItem.frame f :: List.replicate s.trunk.creditsOwed LineItem.credit } }) ∧
  (∀ (s : State) (v : BitVec 3) (e : TxEntry) (rest : List TxEntry), s.trunk.sending = some .head →
    s.trunk.queue = e :: rest →
    let t : State := { s with trunk := { s.trunk with
      sending := none
      creditsOwed := 0
      queue := rest
      sent := s.trunk.sent ++ LineItem.frame e.frame :: List.replicate s.trunk.creditsOwed LineItem.credit } }
    (e.restart = false → exec (.frameTransmitted .trunk v) s = .next t) ∧
    (e.restart = true → ∃ u w : State, exec .warmReset t = .next u ∧ exec (.resetEnd v) u = .next w ∧
      exec (.frameTransmitted .trunk v) s = .next { w with pins := { w.pins with rstn := s.pins.rstn } })) ∧
  ∀ (s : State) (v : BitVec 3) (e : TxEntry) (rest : List TxEntry), s.field.sending = some .head →
    s.field.queue = e :: rest →
    let t : State := { s with field := { s.field with
      sending := none
      creditsOwed := 0
      queue := rest
      sent := s.field.sent ++ LineItem.frame e.frame :: List.replicate s.field.creditsOwed LineItem.credit } }
    (e.frame.kind ≠ 0x04#8 → exec (.frameTransmitted .field v) s = .next t) ∧
    (e.frame.kind = 0x04#8 → (∀ j : SlotId, ∀ g ∈ s.slots[j], g.phase = .queryQueued →
      byteOf g.node.val ≠ e.frame.dest) → exec (.frameTransmitted .field v) s = .next t) ∧
    (e.frame.kind = 0x04#8 → ∀ (j : SlotId) (n : NodeId) (r : Node), s.slots[j] = some { node := n, phase := .queryQueued } →
      e.frame.dest = byteOf n.val → (∀ m : SlotId, m < j → ∀ g ∈ s.slots[m], g.node ≠ n) → s.node n = some r →
      exec (.frameTransmitted .field v) s = .next { t with
        nodes := s.nodes.set n (some { r with attempts := r.attempts + 1 })
        slots := s.slots.set j (some { node := n, phase := .waiting s.resyncWait }) })

/-- FRAME_RECEIVED: uncounted in DOWN and the quiet phase; a check error without credit given; a good frame enters the
buffers behind those already held; a bad one is a check error and its buffer is lent again (R149, R153, R142). -/
def Obligations.FrameReceivedActs : Prop :=
  ∀ (s : State) (p : PortId) (bs : List Byte),
    let l := s.line p
    let good (f : Frame) : Prop := bs = f.bytes ∧ f.payload.length ≤ 48 ∧ f.check = crc16 f.covered
    let counted : State := match p with
      | .trunk => { s with counters := { s.counters with trunkChecks := satSucc s.counters.trunkChecks } }
      | .field => { s with counters := { s.counters with fieldChecks := satSucc s.counters.fieldChecks } }
    let listens := l.link = .announcing ∨ l.link = .up
    (¬ listens → exec (.frameReceived p bs) s = .next s) ∧
    (listens → l.creditGiven = 0 → exec (.frameReceived p bs) s = .next counted) ∧
    (listens → 0 < l.creditGiven → ∀ f : Frame, good f → exec (.frameReceived p bs) s =
      .next (s.setLine p { l with creditGiven := l.creditGiven - 1, rx := l.rx ++ [f] })) ∧
    (listens → 0 < l.creditGiven → (∀ f : Frame, ¬ good f) → exec (.frameReceived p bs) s =
      .next (counted.setLine p { l with
        creditsOwed := if l.sending = none then l.creditsOwed else l.creditsOwed + 1
        sent := if l.sending = none then l.sent ++ [LineItem.credit] else l.sent }))

/-- A READY brings a port in the announcing phase UP with the announced send credit, and is nothing otherwise; the
field port going UP makes FIELD-UP and lets the slots take nodes (R150, R113). A CREDIT adds one send credit in UP, up
to 15 (R154). The quiet phase is followed by the announcing phase, and a port that sends symbols and no frame sends a
READY of its credit given (R149, R150). The two ports are the trunk and the field, and a change at one leaves the
other. That QUIET_PHASE_END does nothing outside the quiet phase (log 2) and READY_FILL nothing while a frame is being
sent (log 18) is the model's choice. -/
def Obligations.LinkSymbols : Prop :=
  (∀ (s : State) (l : Line), s.line .trunk = s.trunk ∧ s.line .field = s.field ∧
    s.setLine .trunk l = { s with trunk := l } ∧ s.setLine .field l = { s with field := l }) ∧
  (∀ (s : State) (count : Nat), count ≤ 15 → s.trunk.link = .announcing →
    exec (.readyReceived .trunk count) s = .next { s with trunk := { s.trunk with link := .up, sendCredit := count } }) ∧
  (∀ (s : State) (count : Nat), count ≤ 15 → s.field.link = .announcing →
    let t : State := { s with field := { s.field with link := .up, sendCredit := count } }
    exec (.readyReceived .field count) s = .next (t.notifyFlagged .fieldUp).fillSlots) ∧
  (∀ (s : State) (p : PortId) (count : Nat), count ≤ 15 → (s.line p).link ≠ .announcing →
    exec (.readyReceived p count) s = .next s) ∧
  (∀ (s : State) (p : PortId),
    let l := s.line p
    (l.link = .up → l.sendCredit < 15 →
      exec (.creditReceived p) s = .next (s.setLine p { l with sendCredit := l.sendCredit + 1 })) ∧
    (l.link ≠ .up ∨ 15 ≤ l.sendCredit → exec (.creditReceived p) s = .next s) ∧
    (l.link = .quiet → exec (.quietPhaseEnd p) s = .next (s.setLine p { l with link := .announcing })) ∧
    (l.link ≠ .quiet → exec (.quietPhaseEnd p) s = .next s) ∧
    (l.link = .announcing ∨ l.link = .up → l.sending = none →
      exec (.readyFill p) s = .next (s.setLine p { l with sent := l.sent ++ [LineItem.ready l.creditGiven] })) ∧
    (l.link = .down ∨ l.link = .quiet ∨ l.sending ≠ none → exec (.readyFill p) s = .next s))

/-! ## Link loss and resets -/

/-- SILENCE_TIMEOUT of the trunk port in UP: buffers and queue discarded with the queue counted as flushed, every
session ended with its claims reclaimed, the role free, and a field DATA frame in hand dropped and counted; mode,
tables and nodes as they were (R151, R156, R68). That CREDITs which wait for the end of a frame are dropped is the
model's reading (log 9). In TRAINING it does nothing (R151); that it does nothing in DOWN is the model's choice (log
2). -/
def Obligations.TrunkSilenceLosesLink : Prop :=
  (∀ s : State, s.trunk.link ≠ .up → exec (.silenceTimeout .trunk) s = .next s) ∧
  ∀ s : State, s.trunk.link = .up → s.ClaimLaw → s.DetachedLaw → s.ListLaw → s.RoleLaw →
    ∃ t : State, exec (.silenceTimeout .trunk) s = .next t ∧
      t.trunk = { s.trunk with
        link := .quiet, sendCredit := 0, creditGiven := 8, rx := [], hold := false, sending := none, creditsOwed := 0,
        queue := [] } ∧
      t.field = (if s.field.hold = true then s.field.finishHead else s.field) ∧
      t.counters = { s.counters with
        flushed := satAdd s.counters.flushed s.trunk.queue.length
        droppedToTrunk := if s.field.hold = true then satSucc s.counters.droppedToTrunk
          else s.counters.droppedToTrunk } ∧
      t.role = none ∧
      (∀ k : AgentId, t.agent k = { s.agent k with
        session := .detached, claims := [], marks := [], notices := [], noticesLost := false, alert := false }) ∧
      (∀ i : SourceIx, t.source i = (s.source i).map fun a => match a.status with
        | .held k => (match (s.agent k).claimOn i with
          | some c => a.reclaim c.consumed
          | none => a)
        | .idle => a
        | .pending => a) ∧
      { t with trunk := s.trunk, field := s.field, counters := s.counters, role := s.role, agents := s.agents,
               sources := s.sources } = s

/-- SILENCE_TIMEOUT of the field port in UP: buffers and queue discarded uncounted, every slot released, every present
field node WAITING with its sources uncertain, the wait list rebuilt in ascending node id, FIELD-DOWN, and a trunk DATA
frame in hand placed in the emptied queue (R112, R151, R157; log 10). That CREDITs which wait for the end of a frame
are dropped is the model's reading (log 9). In TRAINING it does nothing (R151); that it does nothing in DOWN is the
model's choice (log 2). -/
def Obligations.FieldSilenceLosesLink : Prop :=
  (∀ s : State, s.field.link ≠ .up → exec (.silenceTimeout .field) s = .next s) ∧
  ∀ s : State, s.field.link = .up →
    let t : State := { s with
      field := { s.field with
        link := .quiet, sendCredit := 0, creditGiven := if s.mode = .run then 8 else 0, rx := [], hold := false,
        sending := none, creditsOwed := 0, queue := [] }
      nodes := Vector.ofFn fun n => (s.node n).map fun r => if n = 0 then r else { r with state := .waiting }
      sources := Vector.ofFn fun i => (s.source i).map fun a =>
        if a.config.node ≠ 0 ∧ ∃ r ∈ s.node a.config.node, r.state = .synced then { a with uncertain := true } else a
      slots := Vector.replicate 4 none
      waitList := (List.finRange 64).filter fun n => decide (n ≠ 0) && (s.node n).isSome }
    let told := t.notifyFlagged .fieldDown
    ((s.trunk.hold = false ∨ s.trunk.rx = []) → exec (.silenceTimeout .field) s = .next told) ∧
    ∀ f : Frame, s.trunk.hold = true → s.trunk.rx.head? = some f → exec (.silenceTimeout .field) s = .next { told with
      trunk := s.trunk.finishHead
      field := { told.field with queue := [{ frame := f, restart := false }] } }

/-- Table 8-1: a warm reset keeps the configuration of every block and sets the rest as its rule gives (R147, R44, R52,
R90, R114, R125, R138, R140, R158). RSTn low holds the part in reset. RESET_END with RSTn low reads the straps and
brings both ports from DOWN into the quiet phase, lending 8 buffers on the trunk and none on the field in STANDBY
(R155, R158, R150). POWER_ON clears every table and counter, makes node 0 alone present, turns the contact inputs off,
sets the resync parameters to 10 and 3 and puts the ports in DOWN; the queue of commands and the lines' record stay,
the straps are read, and with RSTn high the reset ends in the same act (R45, R90, R108, R114, R125, R136, R148, R155,
R158; log 5, log 8). `State.reset` is that state with nothing waiting or sent; its pin levels are the model's choice
(log 4). That CREDITs which wait for the end of a frame are dropped at a reset is the model's reading (log 9). That
WARM_RESET acts at either level of RSTn, and RESET_END does nothing while it is high, is the model's choice (log 19). -/
def Obligations.ResetsTakenAndEnded : Prop :=
  (∀ s : State, exec .warmReset s = .next { s with
     mode := .standby
     retained := true
     role := none
     counters := {
       trunkChecks := 0#16, fieldChecks := 0#16, foreign := 0#16, stray := 0#16, misdirected := 0#16,
       droppedToTrunk := 0#16, flushed := 0#16 }
     sources := Vector.ofFn fun (i : SourceIx) => (s.source i).map fun (a : Source) => {
       config := a.config, status := .idle,
       reasons := { edgeOwed := false, latched := false, asserted := false, forced := false },
       uncertain := decide (a.config.node ≠ 0), merge := 0#8 }
     agents := Vector.replicate 4 {
       session := .detached, mask := 0, serviceLimit := 0#16, noticeFlag := false, claims := [], marks := [],
       notices := [], noticesLost := false, alert := false, lastSent := 0, reclaims := 0#16 }
     grantNumber := 0#16
     nodes := Vector.ofFn fun n => (s.node n).map fun r => {
       lossSource := r.lossSource, state := if n = 0 then .synced else .waiting, expected := 0#8, attempts := 0,
       wasLost := false, gaps := 0#16, unmapped := 0#16 }
     waitList := (List.finRange 64).filter fun n => decide (n ≠ 0) && (s.node n).isSome
     slots := Vector.replicate 4 none
     contacts := s.contacts.map fun c => { c with filter := if c.filter = .off then .off else .settling none 0 }
     trunk := {
       link := .down, sendCredit := 0, creditGiven := 0, rx := [], hold := false, sending := none, creditsOwed := 0,
       queue := [], sent := s.trunk.sent }
     field := {
       link := .down, sendCredit := 0, creditGiven := 0, rx := [], hold := false, sending := none, creditsOwed := 0,
       queue := [], sent := s.field.sent }
     pins := { s.pins with rstn := false } }) ∧
  ((∀ (s : State) (v : BitVec 3), s.pins.rstn = true → exec (.resetEnd v) s = .next s) ∧
   (∀ (s : State) (v : BitVec 3), s.pins.rstn = false → s.mode = .standby → s.trunk.link = .down →
     s.field.link = .down → exec (.resetEnd v) s = .next { s with
       straps := v
       pins := { s.pins with straps := v, rstn := true }
       trunk := { s.trunk with
         link := .quiet, sendCredit := 0, creditGiven := 8, rx := [], hold := false, sending := none, creditsOwed := 0,
         queue := [] }
       field := { s.field with
         link := .quiet, sendCredit := 0, creditGiven := 0, rx := [], hold := false, sending := none, creditsOwed := 0,
         queue := [] } }) ∧
   ∀ (s : State) (v : BitVec 3),
     let down : Line := {
       link := .down, sendCredit := 0, creditGiven := 0, rx := [], hold := false, sending := none, creditsOwed := 0,
       queue := [], sent := [] }
     let cleared : State := {
       pending := s.pending
       mode := .standby
       retained := false
       role := none
       resyncWait := 10
       resyncTries := 3
       counters := {
         trunkChecks := 0#16, fieldChecks := 0#16, foreign := 0#16, stray := 0#16, misdirected := 0#16,
         droppedToTrunk := 0#16, flushed := 0#16 }
       straps := v
       sources := Vector.replicate 256 none
       promotion := Vector.replicate 4 none
       agents := Vector.replicate 4 {
         session := .detached, mask := 0, serviceLimit := 0#16, noticeFlag := false, claims := [], marks := [],
         notices := [], noticesLost := false, alert := false, lastSent := 0, reclaims := 0#16 }
       grantNumber := 0#16
       nodes := Vector.ofFn fun n => if n = 0 then some {
         lossSource := none, state := .synced, expected := 0#8, attempts := 0, wasLost := false, gaps := 0#16,
         unmapped := 0#16 } else none
       waitList := []
       slots := Vector.replicate 4 none
       contacts := Vector.replicate 16 { invert := false, length := 0, filter := .off }
       trunk := { down with sent := s.trunk.sent }
       field := { down with sent := s.field.sent }
       pins := { cin := 0#16, straps := v, rstn := false } }
     State.reset = { cleared with
       pending := [], straps := 0#3, trunk := down, field := down
       pins := { cin := 0#16, straps := 0#3, rstn := false } } ∧
     exec (.powerOn v false) s = .next cleared ∧
     exec (.powerOn v true) s = .next { cleared with
       pins := { cin := 0#16, straps := v, rstn := true }
       trunk := { cleared.trunk with link := .quiet, creditGiven := 8 }
       field := { cleared.field with link := .quiet } })

/-! ## Frames as bytes -/

/-- A frame on the line is DEST, ORIG, KIND, TAG, LEN, the payload and CHECK, most significant byte first, and the
frames the part builds carry the CRC of all before CHECK (Table 11-1, R153, R166). The bytes of a frame and the frame
they spell agree: every frame with a payload of at most 48 bytes and the right check is read back whole from its bytes,
and whatever is read spells exactly the bytes received. The CRC starts with all bits set and takes each byte most
significant bit first through x^16+x^12+x^5+1, with the manual's value over 0x31 to 0x39 (R153). -/
def Obligations.FrameBytesAgree : Prop :=
  (∀ f : Frame, f.bytes = f.dest :: f.orig :: f.kind :: f.tag :: BitVec.ofNat 8 f.payload.length ::
      (f.payload ++ [f.check.extractLsb' 8 8, f.check.extractLsb' 0 8]) ∧
    f.covered = f.dest :: f.orig :: f.kind :: f.tag :: BitVec.ofNat 8 f.payload.length :: f.payload) ∧
  (∀ (dest orig kind tag : Byte) (payload : List Byte), Frame.sealed dest orig kind tag payload = {
    dest := dest, orig := orig, kind := kind, tag := tag, payload := payload
    check := crc16 (dest :: orig :: kind :: tag :: BitVec.ofNat 8 payload.length :: payload) }) ∧
  crc16 [] = 0xFFFF#16 ∧
  (∀ (bs : List Byte) (b : Byte), crc16 (bs ++ [b]) = [7, 6, 5, 4, 3, 2, 1, 0].foldl (fun (c : BitVec 16) (i : Nat) =>
    if c.msb = b.getLsbD i then c <<< 1 else (c <<< 1) ^^^ 0x1021#16) (crc16 bs)) ∧
  (∀ f : Frame, f.payload.length ≤ 48 → f.check = crc16 f.covered → Frame.ofBytes? f.bytes = some f) ∧
  (∀ (bs : List Byte) (f : Frame), Frame.ofBytes? bs = some f →
    f.bytes = bs ∧ f.payload.length ≤ 48 ∧ f.check = crc16 f.covered) ∧
  crc16 [0x31#8, 0x32#8, 0x33#8, 0x34#8, 0x35#8, 0x36#8, 0x37#8, 0x38#8, 0x39#8] = 0x29B1#16

/-! ## Laws -/

/-- The state after reset meets every law. -/
def Obligations.ResetMeetsLaws : Prop :=
  State.reset.KeyLaw ∧ State.reset.RankLaw ∧ State.reset.PendingLaw ∧ State.reset.ReasonLaw ∧
  State.reset.PromotionLaw ∧ State.reset.RoleLaw ∧ State.reset.DetachedLaw ∧ State.reset.ListLaw ∧
  State.reset.ClaimLaw ∧ State.reset.AlertLaw ∧ State.reset.NodeZeroLaw ∧ State.reset.WaitLaw ∧
  State.reset.UncertainLaw ∧ State.reset.SlotsBusyLaw ∧ State.reset.RetainedLaw ∧ State.reset.StandbyLaw ∧
  State.reset.TimingLaw ∧ State.reset.ContactLaw ∧ State.reset.QueueLaw ∧ State.reset.RestartLaw ∧ State.reset.PortLaw

/-- R2 and R4 are kept by every step: keys are unique and their nodes present; ranks are 1..7 and rank 7 is EDGE. R52
is kept by every step: entries name loaded sources of rank 1..6, none twice. -/
def Obligations.TableLawsKept : Prop :=
  (KeptByStep NoOtherLaw State.KeyLaw ∧ KeptByStep NoOtherLaw State.RankLaw) ∧
  (KeptByStep NoOtherLaw State.PromotionLaw)

/-- R22 is kept by every step: PENDING exactly with an active reason; and, given it and the law of claims, edge-owed
and latched stay with their class. -/
def Obligations.PendingStatesKept : Prop :=
  KeptByStep NoOtherLaw State.PendingLaw ∧ KeptByStep (fun s => s.PendingLaw ∧ s.ClaimLaw) State.ReasonLaw

/-- R133 and R64 are kept by every step: the holder of the role is attached; a detached agent holds nothing. R71, R80
and R84 are kept by every step: the agents' lists stay within 8, the notices-lost flag stands only on a full list, and
no index is marked twice or both claimed and marked. -/
def Obligations.AgentLawsKept : Prop :=
  (KeptByStep NoOtherLaw State.RoleLaw ∧ KeptByStep NoOtherLaw State.DetachedLaw) ∧
  (KeptByStep NoOtherLaw State.ListLaw)

/-- R71 is kept by every step, given R64: a source is HELD by an agent exactly when that agent's list holds a claim on
it, and no list holds a source twice. -/
def Obligations.ClaimsKept : Prop := KeptByStep State.DetachedLaw State.ClaimLaw

/-- R59 and R89 are kept by every step: an attached agent whose alert flag is clear has been told its attention rank. -/
def Obligations.AlertsKept : Prop := KeptByStep NoOtherLaw State.AlertLaw

/-- R92, R99 and R100 are kept by every step: node 0 stays present and SYNCED; the wait list holds exactly the WAITING
nodes and the slots exactly the RESYNCING ones; in RUN with the field UP, nodes wait only while every slot is taken. -/
def Obligations.NodesKept : Prop :=
  KeptByStep NoOtherLaw State.NodeZeroLaw ∧ KeptByStep State.NodeZeroLaw State.WaitLaw ∧
  KeptByStep NoOtherLaw State.SlotsBusyLaw

/-- R93 is kept by every step, given R2 and R99: a source is uncertain exactly when its node is not SYNCED. -/
def Obligations.UncertaintyKept : Prop := KeptByStep (fun s => s.KeyLaw ∧ s.WaitLaw) State.UncertainLaw

/-- R141, R140, R108 and R116 are kept by every step: in STANDBY every source is IDLE with its reasons clear (R46), no
claim is held and every slot is free; in RUN the retained flag is clear; the resync parameters stay in range; and a run
count stays at most the filter length, with no run level exactly at a count of 0 in SETTLING (R117, R118). -/
def Obligations.PartLawsKept : Prop :=
  KeptByStep NoOtherLaw State.StandbyLaw ∧ KeptByStep NoOtherLaw State.RetainedLaw ∧
  KeptByStep NoOtherLaw State.TimingLaw ∧ KeptByStep NoOtherLaw State.ContactLaw

/-- Section 9.1, R142, R145, R161 and R164 are kept by every step: buffers held and lent stay within 8, credit within
15, the queues within 30 and 16, one marked reply at most, and in STANDBY the field port lends nothing; credit and
sending need the link UP, a frame in hand is a buffered one, and CREDITs wait only for the end of a frame (R149, R152,
R154). -/
def Obligations.PortsKept : Prop :=
  KeptByStep NoOtherLaw State.QueueLaw ∧ KeptByStep NoOtherLaw State.RestartLaw ∧ KeptByStep NoOtherLaw State.PortLaw

end
end

