-- ==== Sys2Proof/Laws/State.lean ====
section
/-! SUPPORT. One fact for each field of the state under each update that is a record update: what it changes, and that
it leaves the rest. -/

namespace Sys2Proof.Machine

open Sys2Proof

/-! ### setSource -/

@[simp] theorem State.setSource_pending (s : State) (i : SourceIx) (a : Option Source) :
    (s.setSource i a).pending = s.pending := rfl
@[simp] theorem State.setSource_mode (s : State) (i : SourceIx) (a : Option Source) :
    (s.setSource i a).mode = s.mode := rfl
@[simp] theorem State.setSource_retained (s : State) (i : SourceIx) (a : Option Source) :
    (s.setSource i a).retained = s.retained := rfl
@[simp] theorem State.setSource_role (s : State) (i : SourceIx) (a : Option Source) :
    (s.setSource i a).role = s.role := rfl
@[simp] theorem State.setSource_resyncWait (s : State) (i : SourceIx) (a : Option Source) :
    (s.setSource i a).resyncWait = s.resyncWait := rfl
@[simp] theorem State.setSource_resyncTries (s : State) (i : SourceIx) (a : Option Source) :
    (s.setSource i a).resyncTries = s.resyncTries := rfl
@[simp] theorem State.setSource_counters (s : State) (i : SourceIx) (a : Option Source) :
    (s.setSource i a).counters = s.counters := rfl
@[simp] theorem State.setSource_straps (s : State) (i : SourceIx) (a : Option Source) :
    (s.setSource i a).straps = s.straps := rfl
@[simp] theorem State.setSource_sources (s : State) (i : SourceIx) (a : Option Source) :
    (s.setSource i a).sources = s.sources.set i a := rfl
@[simp] theorem State.setSource_promotion (s : State) (i : SourceIx) (a : Option Source) :
    (s.setSource i a).promotion = s.promotion := rfl
@[simp] theorem State.setSource_promoSlot (s : State) (i : SourceIx) (a : Option Source) (j : SourceIx) :
    (s.setSource i a).promoSlot j = s.promoSlot j := rfl
@[simp] theorem State.setSource_agents (s : State) (i : SourceIx) (a : Option Source) :
    (s.setSource i a).agents = s.agents := rfl
@[simp] theorem State.setSource_agent (s : State) (i : SourceIx) (a : Option Source) (h : AgentId) :
    (s.setSource i a).agent h = s.agent h := rfl
@[simp] theorem State.setSource_grantNumber (s : State) (i : SourceIx) (a : Option Source) :
    (s.setSource i a).grantNumber = s.grantNumber := rfl
@[simp] theorem State.setSource_nodes (s : State) (i : SourceIx) (a : Option Source) :
    (s.setSource i a).nodes = s.nodes := rfl
@[simp] theorem State.setSource_node (s : State) (i : SourceIx) (a : Option Source) (m : NodeId) :
    (s.setSource i a).node m = s.node m := rfl
@[simp] theorem State.setSource_waitList (s : State) (i : SourceIx) (a : Option Source) :
    (s.setSource i a).waitList = s.waitList := rfl
@[simp] theorem State.setSource_slots (s : State) (i : SourceIx) (a : Option Source) :
    (s.setSource i a).slots = s.slots := rfl
@[simp] theorem State.setSource_contacts (s : State) (i : SourceIx) (a : Option Source) :
    (s.setSource i a).contacts = s.contacts := rfl
@[simp] theorem State.setSource_trunk (s : State) (i : SourceIx) (a : Option Source) :
    (s.setSource i a).trunk = s.trunk := rfl
@[simp] theorem State.setSource_field (s : State) (i : SourceIx) (a : Option Source) :
    (s.setSource i a).field = s.field := rfl
@[simp] theorem State.setSource_pins (s : State) (i : SourceIx) (a : Option Source) :
    (s.setSource i a).pins = s.pins := rfl

/-! ### mapSourcesOf -/

@[simp] theorem State.mapSourcesOf_pending (s : State) (n : NodeId) (f : Source → Source) :
    (s.mapSourcesOf n f).pending = s.pending := rfl
@[simp] theorem State.mapSourcesOf_mode (s : State) (n : NodeId) (f : Source → Source) :
    (s.mapSourcesOf n f).mode = s.mode := rfl
@[simp] theorem State.mapSourcesOf_retained (s : State) (n : NodeId) (f : Source → Source) :
    (s.mapSourcesOf n f).retained = s.retained := rfl
@[simp] theorem State.mapSourcesOf_role (s : State) (n : NodeId) (f : Source → Source) :
    (s.mapSourcesOf n f).role = s.role := rfl
@[simp] theorem State.mapSourcesOf_resyncWait (s : State) (n : NodeId) (f : Source → Source) :
    (s.mapSourcesOf n f).resyncWait = s.resyncWait := rfl
@[simp] theorem State.mapSourcesOf_resyncTries (s : State) (n : NodeId) (f : Source → Source) :
    (s.mapSourcesOf n f).resyncTries = s.resyncTries := rfl
@[simp] theorem State.mapSourcesOf_counters (s : State) (n : NodeId) (f : Source → Source) :
    (s.mapSourcesOf n f).counters = s.counters := rfl
@[simp] theorem State.mapSourcesOf_straps (s : State) (n : NodeId) (f : Source → Source) :
    (s.mapSourcesOf n f).straps = s.straps := rfl
@[simp] theorem State.mapSourcesOf_sources (s : State) (n : NodeId) (f : Source → Source) :
    (s.mapSourcesOf n f).sources = s.sources.map (Option.map fun a => if a.config.node = n then f a else a) := rfl
@[simp] theorem State.mapSourcesOf_promotion (s : State) (n : NodeId) (f : Source → Source) :
    (s.mapSourcesOf n f).promotion = s.promotion := rfl
@[simp] theorem State.mapSourcesOf_promoSlot (s : State) (n : NodeId) (f : Source → Source) (j : SourceIx) :
    (s.mapSourcesOf n f).promoSlot j = s.promoSlot j := rfl
@[simp] theorem State.mapSourcesOf_agents (s : State) (n : NodeId) (f : Source → Source) :
    (s.mapSourcesOf n f).agents = s.agents := rfl
@[simp] theorem State.mapSourcesOf_agent (s : State) (n : NodeId) (f : Source → Source) (h : AgentId) :
    (s.mapSourcesOf n f).agent h = s.agent h := rfl
@[simp] theorem State.mapSourcesOf_grantNumber (s : State) (n : NodeId) (f : Source → Source) :
    (s.mapSourcesOf n f).grantNumber = s.grantNumber := rfl
@[simp] theorem State.mapSourcesOf_nodes (s : State) (n : NodeId) (f : Source → Source) :
    (s.mapSourcesOf n f).nodes = s.nodes := rfl
@[simp] theorem State.mapSourcesOf_node (s : State) (n : NodeId) (f : Source → Source) (m : NodeId) :
    (s.mapSourcesOf n f).node m = s.node m := rfl
@[simp] theorem State.mapSourcesOf_waitList (s : State) (n : NodeId) (f : Source → Source) :
    (s.mapSourcesOf n f).waitList = s.waitList := rfl
@[simp] theorem State.mapSourcesOf_slots (s : State) (n : NodeId) (f : Source → Source) :
    (s.mapSourcesOf n f).slots = s.slots := rfl
@[simp] theorem State.mapSourcesOf_contacts (s : State) (n : NodeId) (f : Source → Source) :
    (s.mapSourcesOf n f).contacts = s.contacts := rfl
@[simp] theorem State.mapSourcesOf_trunk (s : State) (n : NodeId) (f : Source → Source) :
    (s.mapSourcesOf n f).trunk = s.trunk := rfl
@[simp] theorem State.mapSourcesOf_field (s : State) (n : NodeId) (f : Source → Source) :
    (s.mapSourcesOf n f).field = s.field := rfl
@[simp] theorem State.mapSourcesOf_pins (s : State) (n : NodeId) (f : Source → Source) :
    (s.mapSourcesOf n f).pins = s.pins := rfl

/-! ### markUncertain -/

@[simp] theorem State.markUncertain_pending (s : State) (n : NodeId) (b : Bool) :
    (s.markUncertain n b).pending = s.pending := rfl
@[simp] theorem State.markUncertain_mode (s : State) (n : NodeId) (b : Bool) : (s.markUncertain n b).mode = s.mode :=
  rfl
@[simp] theorem State.markUncertain_retained (s : State) (n : NodeId) (b : Bool) :
    (s.markUncertain n b).retained = s.retained := rfl
@[simp] theorem State.markUncertain_role (s : State) (n : NodeId) (b : Bool) : (s.markUncertain n b).role = s.role :=
  rfl
@[simp] theorem State.markUncertain_resyncWait (s : State) (n : NodeId) (b : Bool) :
    (s.markUncertain n b).resyncWait = s.resyncWait := rfl
@[simp] theorem State.markUncertain_resyncTries (s : State) (n : NodeId) (b : Bool) :
    (s.markUncertain n b).resyncTries = s.resyncTries := rfl
@[simp] theorem State.markUncertain_counters (s : State) (n : NodeId) (b : Bool) :
    (s.markUncertain n b).counters = s.counters := rfl
@[simp] theorem State.markUncertain_straps (s : State) (n : NodeId) (b : Bool) :
    (s.markUncertain n b).straps = s.straps := rfl
@[simp] theorem State.markUncertain_sources (s : State) (n : NodeId) (b : Bool) :
    (s.markUncertain n b).sources = (s.mapSourcesOf n fun a => { a with uncertain := b }).sources := rfl
@[simp] theorem State.markUncertain_promotion (s : State) (n : NodeId) (b : Bool) :
    (s.markUncertain n b).promotion = s.promotion := rfl
@[simp] theorem State.markUncertain_promoSlot (s : State) (n : NodeId) (b : Bool) (j : SourceIx) :
    (s.markUncertain n b).promoSlot j = s.promoSlot j := rfl
@[simp] theorem State.markUncertain_agents (s : State) (n : NodeId) (b : Bool) :
    (s.markUncertain n b).agents = s.agents := rfl
@[simp] theorem State.markUncertain_agent (s : State) (n : NodeId) (b : Bool) (h : AgentId) :
    (s.markUncertain n b).agent h = s.agent h := rfl
@[simp] theorem State.markUncertain_grantNumber (s : State) (n : NodeId) (b : Bool) :
    (s.markUncertain n b).grantNumber = s.grantNumber := rfl
@[simp] theorem State.markUncertain_nodes (s : State) (n : NodeId) (b : Bool) :
    (s.markUncertain n b).nodes = s.nodes := rfl
@[simp] theorem State.markUncertain_node (s : State) (n : NodeId) (b : Bool) (m : NodeId) :
    (s.markUncertain n b).node m = s.node m := rfl
@[simp] theorem State.markUncertain_waitList (s : State) (n : NodeId) (b : Bool) :
    (s.markUncertain n b).waitList = s.waitList := rfl
@[simp] theorem State.markUncertain_slots (s : State) (n : NodeId) (b : Bool) :
    (s.markUncertain n b).slots = s.slots := rfl
@[simp] theorem State.markUncertain_contacts (s : State) (n : NodeId) (b : Bool) :
    (s.markUncertain n b).contacts = s.contacts := rfl
@[simp] theorem State.markUncertain_trunk (s : State) (n : NodeId) (b : Bool) :
    (s.markUncertain n b).trunk = s.trunk := rfl
@[simp] theorem State.markUncertain_field (s : State) (n : NodeId) (b : Bool) :
    (s.markUncertain n b).field = s.field := rfl
@[simp] theorem State.markUncertain_pins (s : State) (n : NodeId) (b : Bool) : (s.markUncertain n b).pins = s.pins :=
  rfl

/-! ### setAgent -/

@[simp] theorem State.setAgent_pending (s : State) (k : AgentId) (a : Agent) : (s.setAgent k a).pending = s.pending :=
  rfl
@[simp] theorem State.setAgent_mode (s : State) (k : AgentId) (a : Agent) : (s.setAgent k a).mode = s.mode := rfl
@[simp] theorem State.setAgent_retained (s : State) (k : AgentId) (a : Agent) :
    (s.setAgent k a).retained = s.retained := rfl
@[simp] theorem State.setAgent_role (s : State) (k : AgentId) (a : Agent) : (s.setAgent k a).role = s.role := rfl
@[simp] theorem State.setAgent_resyncWait (s : State) (k : AgentId) (a : Agent) :
    (s.setAgent k a).resyncWait = s.resyncWait := rfl
@[simp] theorem State.setAgent_resyncTries (s : State) (k : AgentId) (a : Agent) :
    (s.setAgent k a).resyncTries = s.resyncTries := rfl
@[simp] theorem State.setAgent_counters (s : State) (k : AgentId) (a : Agent) :
    (s.setAgent k a).counters = s.counters := rfl
@[simp] theorem State.setAgent_straps (s : State) (k : AgentId) (a : Agent) : (s.setAgent k a).straps = s.straps :=
  rfl
@[simp] theorem State.setAgent_sources (s : State) (k : AgentId) (a : Agent) : (s.setAgent k a).sources = s.sources :=
  rfl
@[simp] theorem State.setAgent_source (s : State) (k : AgentId) (a : Agent) (j : SourceIx) :
    (s.setAgent k a).source j = s.source j := rfl
@[simp] theorem State.setAgent_promotion (s : State) (k : AgentId) (a : Agent) :
    (s.setAgent k a).promotion = s.promotion := rfl
@[simp] theorem State.setAgent_promoSlot (s : State) (k : AgentId) (a : Agent) (j : SourceIx) :
    (s.setAgent k a).promoSlot j = s.promoSlot j := rfl
@[simp] theorem State.setAgent_agents (s : State) (k : AgentId) (a : Agent) :
    (s.setAgent k a).agents = s.agents.set k a := rfl
@[simp] theorem State.setAgent_grantNumber (s : State) (k : AgentId) (a : Agent) :
    (s.setAgent k a).grantNumber = s.grantNumber := rfl
@[simp] theorem State.setAgent_nodes (s : State) (k : AgentId) (a : Agent) : (s.setAgent k a).nodes = s.nodes := rfl
@[simp] theorem State.setAgent_node (s : State) (k : AgentId) (a : Agent) (m : NodeId) :
    (s.setAgent k a).node m = s.node m := rfl
@[simp] theorem State.setAgent_waitList (s : State) (k : AgentId) (a : Agent) :
    (s.setAgent k a).waitList = s.waitList := rfl
@[simp] theorem State.setAgent_slots (s : State) (k : AgentId) (a : Agent) : (s.setAgent k a).slots = s.slots := rfl
@[simp] theorem State.setAgent_contacts (s : State) (k : AgentId) (a : Agent) :
    (s.setAgent k a).contacts = s.contacts := rfl
@[simp] theorem State.setAgent_trunk (s : State) (k : AgentId) (a : Agent) : (s.setAgent k a).trunk = s.trunk := rfl
@[simp] theorem State.setAgent_field (s : State) (k : AgentId) (a : Agent) : (s.setAgent k a).field = s.field := rfl
@[simp] theorem State.setAgent_pins (s : State) (k : AgentId) (a : Agent) : (s.setAgent k a).pins = s.pins := rfl

/-! ### modAgent -/

@[simp] theorem State.modAgent_pending (s : State) (k : AgentId) (f : Agent → Agent) :
    (s.modAgent k f).pending = s.pending := rfl
@[simp] theorem State.modAgent_mode (s : State) (k : AgentId) (f : Agent → Agent) : (s.modAgent k f).mode = s.mode :=
  rfl
@[simp] theorem State.modAgent_retained (s : State) (k : AgentId) (f : Agent → Agent) :
    (s.modAgent k f).retained = s.retained := rfl
@[simp] theorem State.modAgent_role (s : State) (k : AgentId) (f : Agent → Agent) : (s.modAgent k f).role = s.role :=
  rfl
@[simp] theorem State.modAgent_resyncWait (s : State) (k : AgentId) (f : Agent → Agent) :
    (s.modAgent k f).resyncWait = s.resyncWait := rfl
@[simp] theorem State.modAgent_resyncTries (s : State) (k : AgentId) (f : Agent → Agent) :
    (s.modAgent k f).resyncTries = s.resyncTries := rfl
@[simp] theorem State.modAgent_counters (s : State) (k : AgentId) (f : Agent → Agent) :
    (s.modAgent k f).counters = s.counters := rfl
@[simp] theorem State.modAgent_straps (s : State) (k : AgentId) (f : Agent → Agent) :
    (s.modAgent k f).straps = s.straps := rfl
@[simp] theorem State.modAgent_sources (s : State) (k : AgentId) (f : Agent → Agent) :
    (s.modAgent k f).sources = s.sources := rfl
@[simp] theorem State.modAgent_source (s : State) (k : AgentId) (f : Agent → Agent) (j : SourceIx) :
    (s.modAgent k f).source j = s.source j := rfl
@[simp] theorem State.modAgent_promotion (s : State) (k : AgentId) (f : Agent → Agent) :
    (s.modAgent k f).promotion = s.promotion := rfl
@[simp] theorem State.modAgent_promoSlot (s : State) (k : AgentId) (f : Agent → Agent) (j : SourceIx) :
    (s.modAgent k f).promoSlot j = s.promoSlot j := rfl
@[simp] theorem State.modAgent_agents (s : State) (k : AgentId) (f : Agent → Agent) :
    (s.modAgent k f).agents = s.agents.set k (f (s.agent k)) := rfl
@[simp] theorem State.modAgent_grantNumber (s : State) (k : AgentId) (f : Agent → Agent) :
    (s.modAgent k f).grantNumber = s.grantNumber := rfl
@[simp] theorem State.modAgent_nodes (s : State) (k : AgentId) (f : Agent → Agent) :
    (s.modAgent k f).nodes = s.nodes := rfl
@[simp] theorem State.modAgent_node (s : State) (k : AgentId) (f : Agent → Agent) (m : NodeId) :
    (s.modAgent k f).node m = s.node m := rfl
@[simp] theorem State.modAgent_waitList (s : State) (k : AgentId) (f : Agent → Agent) :
    (s.modAgent k f).waitList = s.waitList := rfl
@[simp] theorem State.modAgent_slots (s : State) (k : AgentId) (f : Agent → Agent) :
    (s.modAgent k f).slots = s.slots := rfl
@[simp] theorem State.modAgent_contacts (s : State) (k : AgentId) (f : Agent → Agent) :
    (s.modAgent k f).contacts = s.contacts := rfl
@[simp] theorem State.modAgent_trunk (s : State) (k : AgentId) (f : Agent → Agent) :
    (s.modAgent k f).trunk = s.trunk := rfl
@[simp] theorem State.modAgent_field (s : State) (k : AgentId) (f : Agent → Agent) :
    (s.modAgent k f).field = s.field := rfl
@[simp] theorem State.modAgent_pins (s : State) (k : AgentId) (f : Agent → Agent) : (s.modAgent k f).pins = s.pins :=
  rfl

/-! ### setNode -/

@[simp] theorem State.setNode_pending (s : State) (n : NodeId) (r : Option Node) :
    (s.setNode n r).pending = s.pending := rfl
@[simp] theorem State.setNode_mode (s : State) (n : NodeId) (r : Option Node) : (s.setNode n r).mode = s.mode := rfl
@[simp] theorem State.setNode_retained (s : State) (n : NodeId) (r : Option Node) :
    (s.setNode n r).retained = s.retained := rfl
@[simp] theorem State.setNode_role (s : State) (n : NodeId) (r : Option Node) : (s.setNode n r).role = s.role := rfl
@[simp] theorem State.setNode_resyncWait (s : State) (n : NodeId) (r : Option Node) :
    (s.setNode n r).resyncWait = s.resyncWait := rfl
@[simp] theorem State.setNode_resyncTries (s : State) (n : NodeId) (r : Option Node) :
    (s.setNode n r).resyncTries = s.resyncTries := rfl
@[simp] theorem State.setNode_counters (s : State) (n : NodeId) (r : Option Node) :
    (s.setNode n r).counters = s.counters := rfl
@[simp] theorem State.setNode_straps (s : State) (n : NodeId) (r : Option Node) : (s.setNode n r).straps = s.straps :=
  rfl
@[simp] theorem State.setNode_sources (s : State) (n : NodeId) (r : Option Node) :
    (s.setNode n r).sources = s.sources := rfl
@[simp] theorem State.setNode_source (s : State) (n : NodeId) (r : Option Node) (j : SourceIx) :
    (s.setNode n r).source j = s.source j := rfl
@[simp] theorem State.setNode_promotion (s : State) (n : NodeId) (r : Option Node) :
    (s.setNode n r).promotion = s.promotion := rfl
@[simp] theorem State.setNode_promoSlot (s : State) (n : NodeId) (r : Option Node) (j : SourceIx) :
    (s.setNode n r).promoSlot j = s.promoSlot j := rfl
@[simp] theorem State.setNode_agents (s : State) (n : NodeId) (r : Option Node) : (s.setNode n r).agents = s.agents :=
  rfl
@[simp] theorem State.setNode_agent (s : State) (n : NodeId) (r : Option Node) (h : AgentId) :
    (s.setNode n r).agent h = s.agent h := rfl
@[simp] theorem State.setNode_grantNumber (s : State) (n : NodeId) (r : Option Node) :
    (s.setNode n r).grantNumber = s.grantNumber := rfl
@[simp] theorem State.setNode_nodes (s : State) (n : NodeId) (r : Option Node) :
    (s.setNode n r).nodes = s.nodes.set n r := rfl
@[simp] theorem State.setNode_waitList (s : State) (n : NodeId) (r : Option Node) :
    (s.setNode n r).waitList = s.waitList := rfl
@[simp] theorem State.setNode_slots (s : State) (n : NodeId) (r : Option Node) : (s.setNode n r).slots = s.slots :=
  rfl
@[simp] theorem State.setNode_contacts (s : State) (n : NodeId) (r : Option Node) :
    (s.setNode n r).contacts = s.contacts := rfl
@[simp] theorem State.setNode_trunk (s : State) (n : NodeId) (r : Option Node) : (s.setNode n r).trunk = s.trunk :=
  rfl
@[simp] theorem State.setNode_field (s : State) (n : NodeId) (r : Option Node) : (s.setNode n r).field = s.field :=
  rfl
@[simp] theorem State.setNode_pins (s : State) (n : NodeId) (r : Option Node) : (s.setNode n r).pins = s.pins := rfl

/-! ### modNode -/

@[simp] theorem State.modNode_pending (s : State) (n : NodeId) (f : Node → Node) :
    (s.modNode n f).pending = s.pending := rfl
@[simp] theorem State.modNode_mode (s : State) (n : NodeId) (f : Node → Node) : (s.modNode n f).mode = s.mode := rfl
@[simp] theorem State.modNode_retained (s : State) (n : NodeId) (f : Node → Node) :
    (s.modNode n f).retained = s.retained := rfl
@[simp] theorem State.modNode_role (s : State) (n : NodeId) (f : Node → Node) : (s.modNode n f).role = s.role := rfl
@[simp] theorem State.modNode_resyncWait (s : State) (n : NodeId) (f : Node → Node) :
    (s.modNode n f).resyncWait = s.resyncWait := rfl
@[simp] theorem State.modNode_resyncTries (s : State) (n : NodeId) (f : Node → Node) :
    (s.modNode n f).resyncTries = s.resyncTries := rfl
@[simp] theorem State.modNode_counters (s : State) (n : NodeId) (f : Node → Node) :
    (s.modNode n f).counters = s.counters := rfl
@[simp] theorem State.modNode_straps (s : State) (n : NodeId) (f : Node → Node) : (s.modNode n f).straps = s.straps :=
  rfl
@[simp] theorem State.modNode_sources (s : State) (n : NodeId) (f : Node → Node) :
    (s.modNode n f).sources = s.sources := rfl
@[simp] theorem State.modNode_source (s : State) (n : NodeId) (f : Node → Node) (j : SourceIx) :
    (s.modNode n f).source j = s.source j := rfl
@[simp] theorem State.modNode_promotion (s : State) (n : NodeId) (f : Node → Node) :
    (s.modNode n f).promotion = s.promotion := rfl
@[simp] theorem State.modNode_promoSlot (s : State) (n : NodeId) (f : Node → Node) (j : SourceIx) :
    (s.modNode n f).promoSlot j = s.promoSlot j := rfl
@[simp] theorem State.modNode_agents (s : State) (n : NodeId) (f : Node → Node) : (s.modNode n f).agents = s.agents :=
  rfl
@[simp] theorem State.modNode_agent (s : State) (n : NodeId) (f : Node → Node) (h : AgentId) :
    (s.modNode n f).agent h = s.agent h := rfl
@[simp] theorem State.modNode_grantNumber (s : State) (n : NodeId) (f : Node → Node) :
    (s.modNode n f).grantNumber = s.grantNumber := rfl
@[simp] theorem State.modNode_nodes (s : State) (n : NodeId) (f : Node → Node) :
    (s.modNode n f).nodes = s.nodes.set n ((s.node n).map f) := rfl
@[simp] theorem State.modNode_waitList (s : State) (n : NodeId) (f : Node → Node) :
    (s.modNode n f).waitList = s.waitList := rfl
@[simp] theorem State.modNode_slots (s : State) (n : NodeId) (f : Node → Node) : (s.modNode n f).slots = s.slots :=
  rfl
@[simp] theorem State.modNode_contacts (s : State) (n : NodeId) (f : Node → Node) :
    (s.modNode n f).contacts = s.contacts := rfl
@[simp] theorem State.modNode_trunk (s : State) (n : NodeId) (f : Node → Node) : (s.modNode n f).trunk = s.trunk :=
  rfl
@[simp] theorem State.modNode_field (s : State) (n : NodeId) (f : Node → Node) : (s.modNode n f).field = s.field :=
  rfl
@[simp] theorem State.modNode_pins (s : State) (n : NodeId) (f : Node → Node) : (s.modNode n f).pins = s.pins := rfl

/-! ### setPromotion -/

@[simp] theorem State.setPromotion_pending (s : State) (p : PromoSlot) (o : Option SourceIx) :
    (s.setPromotion p o).pending = s.pending := rfl
@[simp] theorem State.setPromotion_mode (s : State) (p : PromoSlot) (o : Option SourceIx) :
    (s.setPromotion p o).mode = s.mode := rfl
@[simp] theorem State.setPromotion_retained (s : State) (p : PromoSlot) (o : Option SourceIx) :
    (s.setPromotion p o).retained = s.retained := rfl
@[simp] theorem State.setPromotion_role (s : State) (p : PromoSlot) (o : Option SourceIx) :
    (s.setPromotion p o).role = s.role := rfl
@[simp] theorem State.setPromotion_resyncWait (s : State) (p : PromoSlot) (o : Option SourceIx) :
    (s.setPromotion p o).resyncWait = s.resyncWait := rfl
@[simp] theorem State.setPromotion_resyncTries (s : State) (p : PromoSlot) (o : Option SourceIx) :
    (s.setPromotion p o).resyncTries = s.resyncTries := rfl
@[simp] theorem State.setPromotion_counters (s : State) (p : PromoSlot) (o : Option SourceIx) :
    (s.setPromotion p o).counters = s.counters := rfl
@[simp] theorem State.setPromotion_straps (s : State) (p : PromoSlot) (o : Option SourceIx) :
    (s.setPromotion p o).straps = s.straps := rfl
@[simp] theorem State.setPromotion_sources (s : State) (p : PromoSlot) (o : Option SourceIx) :
    (s.setPromotion p o).sources = s.sources := rfl
@[simp] theorem State.setPromotion_source (s : State) (p : PromoSlot) (o : Option SourceIx) (j : SourceIx) :
    (s.setPromotion p o).source j = s.source j := rfl
@[simp] theorem State.setPromotion_promotion (s : State) (p : PromoSlot) (o : Option SourceIx) :
    (s.setPromotion p o).promotion = s.promotion.set p o := rfl
@[simp] theorem State.setPromotion_agents (s : State) (p : PromoSlot) (o : Option SourceIx) :
    (s.setPromotion p o).agents = s.agents := rfl
@[simp] theorem State.setPromotion_agent (s : State) (p : PromoSlot) (o : Option SourceIx) (h : AgentId) :
    (s.setPromotion p o).agent h = s.agent h := rfl
@[simp] theorem State.setPromotion_grantNumber (s : State) (p : PromoSlot) (o : Option SourceIx) :
    (s.setPromotion p o).grantNumber = s.grantNumber := rfl
@[simp] theorem State.setPromotion_nodes (s : State) (p : PromoSlot) (o : Option SourceIx) :
    (s.setPromotion p o).nodes = s.nodes := rfl
@[simp] theorem State.setPromotion_node (s : State) (p : PromoSlot) (o : Option SourceIx) (m : NodeId) :
    (s.setPromotion p o).node m = s.node m := rfl
@[simp] theorem State.setPromotion_waitList (s : State) (p : PromoSlot) (o : Option SourceIx) :
    (s.setPromotion p o).waitList = s.waitList := rfl
@[simp] theorem State.setPromotion_slots (s : State) (p : PromoSlot) (o : Option SourceIx) :
    (s.setPromotion p o).slots = s.slots := rfl
@[simp] theorem State.setPromotion_contacts (s : State) (p : PromoSlot) (o : Option SourceIx) :
    (s.setPromotion p o).contacts = s.contacts := rfl
@[simp] theorem State.setPromotion_trunk (s : State) (p : PromoSlot) (o : Option SourceIx) :
    (s.setPromotion p o).trunk = s.trunk := rfl
@[simp] theorem State.setPromotion_field (s : State) (p : PromoSlot) (o : Option SourceIx) :
    (s.setPromotion p o).field = s.field := rfl
@[simp] theorem State.setPromotion_pins (s : State) (p : PromoSlot) (o : Option SourceIx) :
    (s.setPromotion p o).pins = s.pins := rfl

/-! ### unpromote -/

@[simp] theorem State.unpromote_pending (s : State) (i : SourceIx) : (s.unpromote i).pending = s.pending := rfl
@[simp] theorem State.unpromote_mode (s : State) (i : SourceIx) : (s.unpromote i).mode = s.mode := rfl
@[simp] theorem State.unpromote_retained (s : State) (i : SourceIx) : (s.unpromote i).retained = s.retained := rfl
@[simp] theorem State.unpromote_role (s : State) (i : SourceIx) : (s.unpromote i).role = s.role := rfl
@[simp] theorem State.unpromote_resyncWait (s : State) (i : SourceIx) : (s.unpromote i).resyncWait = s.resyncWait :=
  rfl
@[simp] theorem State.unpromote_resyncTries (s : State) (i : SourceIx) :
    (s.unpromote i).resyncTries = s.resyncTries := rfl
@[simp] theorem State.unpromote_counters (s : State) (i : SourceIx) : (s.unpromote i).counters = s.counters := rfl
@[simp] theorem State.unpromote_straps (s : State) (i : SourceIx) : (s.unpromote i).straps = s.straps := rfl
@[simp] theorem State.unpromote_sources (s : State) (i : SourceIx) : (s.unpromote i).sources = s.sources := rfl
@[simp] theorem State.unpromote_source (s : State) (i : SourceIx) (j : SourceIx) :
    (s.unpromote i).source j = s.source j := rfl
@[simp] theorem State.unpromote_promotion (s : State) (i : SourceIx) :
    (s.unpromote i).promotion = s.promotion.map fun o => if o = some i then none else o := rfl
@[simp] theorem State.unpromote_agents (s : State) (i : SourceIx) : (s.unpromote i).agents = s.agents := rfl
@[simp] theorem State.unpromote_agent (s : State) (i : SourceIx) (h : AgentId) :
    (s.unpromote i).agent h = s.agent h := rfl
@[simp] theorem State.unpromote_grantNumber (s : State) (i : SourceIx) :
    (s.unpromote i).grantNumber = s.grantNumber := rfl
@[simp] theorem State.unpromote_nodes (s : State) (i : SourceIx) : (s.unpromote i).nodes = s.nodes := rfl
@[simp] theorem State.unpromote_node (s : State) (i : SourceIx) (m : NodeId) : (s.unpromote i).node m = s.node m :=
  rfl
@[simp] theorem State.unpromote_waitList (s : State) (i : SourceIx) : (s.unpromote i).waitList = s.waitList := rfl
@[simp] theorem State.unpromote_slots (s : State) (i : SourceIx) : (s.unpromote i).slots = s.slots := rfl
@[simp] theorem State.unpromote_contacts (s : State) (i : SourceIx) : (s.unpromote i).contacts = s.contacts := rfl
@[simp] theorem State.unpromote_trunk (s : State) (i : SourceIx) : (s.unpromote i).trunk = s.trunk := rfl
@[simp] theorem State.unpromote_field (s : State) (i : SourceIx) : (s.unpromote i).field = s.field := rfl
@[simp] theorem State.unpromote_pins (s : State) (i : SourceIx) : (s.unpromote i).pins = s.pins := rfl

/-! ### count -/

@[simp] theorem State.count_pending (s : State) (f : Counters → Counters) : (s.count f).pending = s.pending := rfl
@[simp] theorem State.count_mode (s : State) (f : Counters → Counters) : (s.count f).mode = s.mode := rfl
@[simp] theorem State.count_retained (s : State) (f : Counters → Counters) : (s.count f).retained = s.retained := rfl
@[simp] theorem State.count_role (s : State) (f : Counters → Counters) : (s.count f).role = s.role := rfl
@[simp] theorem State.count_resyncWait (s : State) (f : Counters → Counters) :
    (s.count f).resyncWait = s.resyncWait := rfl
@[simp] theorem State.count_resyncTries (s : State) (f : Counters → Counters) :
    (s.count f).resyncTries = s.resyncTries := rfl
@[simp] theorem State.count_counters (s : State) (f : Counters → Counters) : (s.count f).counters = f s.counters :=
  rfl
@[simp] theorem State.count_straps (s : State) (f : Counters → Counters) : (s.count f).straps = s.straps := rfl
@[simp] theorem State.count_sources (s : State) (f : Counters → Counters) : (s.count f).sources = s.sources := rfl
@[simp] theorem State.count_source (s : State) (f : Counters → Counters) (j : SourceIx) :
    (s.count f).source j = s.source j := rfl
@[simp] theorem State.count_promotion (s : State) (f : Counters → Counters) : (s.count f).promotion = s.promotion :=
  rfl
@[simp] theorem State.count_promoSlot (s : State) (f : Counters → Counters) (j : SourceIx) :
    (s.count f).promoSlot j = s.promoSlot j := rfl
@[simp] theorem State.count_agents (s : State) (f : Counters → Counters) : (s.count f).agents = s.agents := rfl
@[simp] theorem State.count_agent (s : State) (f : Counters → Counters) (h : AgentId) :
    (s.count f).agent h = s.agent h := rfl
@[simp] theorem State.count_grantNumber (s : State) (f : Counters → Counters) :
    (s.count f).grantNumber = s.grantNumber := rfl
@[simp] theorem State.count_nodes (s : State) (f : Counters → Counters) : (s.count f).nodes = s.nodes := rfl
@[simp] theorem State.count_node (s : State) (f : Counters → Counters) (m : NodeId) : (s.count f).node m = s.node m :=
  rfl
@[simp] theorem State.count_waitList (s : State) (f : Counters → Counters) : (s.count f).waitList = s.waitList := rfl
@[simp] theorem State.count_slots (s : State) (f : Counters → Counters) : (s.count f).slots = s.slots := rfl
@[simp] theorem State.count_contacts (s : State) (f : Counters → Counters) : (s.count f).contacts = s.contacts := rfl
@[simp] theorem State.count_trunk (s : State) (f : Counters → Counters) : (s.count f).trunk = s.trunk := rfl
@[simp] theorem State.count_field (s : State) (f : Counters → Counters) : (s.count f).field = s.field := rfl
@[simp] theorem State.count_pins (s : State) (f : Counters → Counters) : (s.count f).pins = s.pins := rfl

/-! ### reEvaluate -/

@[simp] theorem State.reEvaluate_pending (s : State) (k : AgentId) : (s.reEvaluate k).pending = s.pending := rfl
@[simp] theorem State.reEvaluate_mode (s : State) (k : AgentId) : (s.reEvaluate k).mode = s.mode := rfl
@[simp] theorem State.reEvaluate_retained (s : State) (k : AgentId) : (s.reEvaluate k).retained = s.retained := rfl
@[simp] theorem State.reEvaluate_role (s : State) (k : AgentId) : (s.reEvaluate k).role = s.role := rfl
@[simp] theorem State.reEvaluate_resyncWait (s : State) (k : AgentId) : (s.reEvaluate k).resyncWait = s.resyncWait :=
  rfl
@[simp] theorem State.reEvaluate_resyncTries (s : State) (k : AgentId) :
    (s.reEvaluate k).resyncTries = s.resyncTries := rfl
@[simp] theorem State.reEvaluate_counters (s : State) (k : AgentId) : (s.reEvaluate k).counters = s.counters := rfl
@[simp] theorem State.reEvaluate_straps (s : State) (k : AgentId) : (s.reEvaluate k).straps = s.straps := rfl
@[simp] theorem State.reEvaluate_sources (s : State) (k : AgentId) : (s.reEvaluate k).sources = s.sources := rfl
@[simp] theorem State.reEvaluate_source (s : State) (k : AgentId) (j : SourceIx) :
    (s.reEvaluate k).source j = s.source j := rfl
@[simp] theorem State.reEvaluate_promotion (s : State) (k : AgentId) : (s.reEvaluate k).promotion = s.promotion := rfl
@[simp] theorem State.reEvaluate_promoSlot (s : State) (k : AgentId) (j : SourceIx) :
    (s.reEvaluate k).promoSlot j = s.promoSlot j := rfl
@[simp] theorem State.reEvaluate_agents (s : State) (k : AgentId) :
    (s.reEvaluate k).agents = s.agents.set k (s.evaluated k) := rfl
@[simp] theorem State.reEvaluate_grantNumber (s : State) (k : AgentId) :
    (s.reEvaluate k).grantNumber = s.grantNumber := rfl
@[simp] theorem State.reEvaluate_nodes (s : State) (k : AgentId) : (s.reEvaluate k).nodes = s.nodes := rfl
@[simp] theorem State.reEvaluate_node (s : State) (k : AgentId) (m : NodeId) : (s.reEvaluate k).node m = s.node m :=
  rfl
@[simp] theorem State.reEvaluate_waitList (s : State) (k : AgentId) : (s.reEvaluate k).waitList = s.waitList := rfl
@[simp] theorem State.reEvaluate_slots (s : State) (k : AgentId) : (s.reEvaluate k).slots = s.slots := rfl
@[simp] theorem State.reEvaluate_contacts (s : State) (k : AgentId) : (s.reEvaluate k).contacts = s.contacts := rfl
@[simp] theorem State.reEvaluate_trunk (s : State) (k : AgentId) : (s.reEvaluate k).trunk = s.trunk := rfl
@[simp] theorem State.reEvaluate_field (s : State) (k : AgentId) : (s.reEvaluate k).field = s.field := rfl
@[simp] theorem State.reEvaluate_pins (s : State) (k : AgentId) : (s.reEvaluate k).pins = s.pins := rfl

/-! ### reEvaluateAll -/

@[simp] theorem State.reEvaluateAll_pending (s : State) : (s.reEvaluateAll).pending = s.pending := rfl
@[simp] theorem State.reEvaluateAll_mode (s : State) : (s.reEvaluateAll).mode = s.mode := rfl
@[simp] theorem State.reEvaluateAll_retained (s : State) : (s.reEvaluateAll).retained = s.retained := rfl
@[simp] theorem State.reEvaluateAll_role (s : State) : (s.reEvaluateAll).role = s.role := rfl
@[simp] theorem State.reEvaluateAll_resyncWait (s : State) : (s.reEvaluateAll).resyncWait = s.resyncWait := rfl
@[simp] theorem State.reEvaluateAll_resyncTries (s : State) : (s.reEvaluateAll).resyncTries = s.resyncTries := rfl
@[simp] theorem State.reEvaluateAll_counters (s : State) : (s.reEvaluateAll).counters = s.counters := rfl
@[simp] theorem State.reEvaluateAll_straps (s : State) : (s.reEvaluateAll).straps = s.straps := rfl
@[simp] theorem State.reEvaluateAll_sources (s : State) : (s.reEvaluateAll).sources = s.sources := rfl
@[simp] theorem State.reEvaluateAll_source (s : State) (j : SourceIx) : (s.reEvaluateAll).source j = s.source j := rfl
@[simp] theorem State.reEvaluateAll_promotion (s : State) : (s.reEvaluateAll).promotion = s.promotion := rfl
@[simp] theorem State.reEvaluateAll_promoSlot (s : State) (j : SourceIx) :
    (s.reEvaluateAll).promoSlot j = s.promoSlot j := rfl
@[simp] theorem State.reEvaluateAll_agents (s : State) : (s.reEvaluateAll).agents = Vector.ofFn s.evaluated := rfl
@[simp] theorem State.reEvaluateAll_grantNumber (s : State) : (s.reEvaluateAll).grantNumber = s.grantNumber := rfl
@[simp] theorem State.reEvaluateAll_nodes (s : State) : (s.reEvaluateAll).nodes = s.nodes := rfl
@[simp] theorem State.reEvaluateAll_node (s : State) (m : NodeId) : (s.reEvaluateAll).node m = s.node m := rfl
@[simp] theorem State.reEvaluateAll_waitList (s : State) : (s.reEvaluateAll).waitList = s.waitList := rfl
@[simp] theorem State.reEvaluateAll_slots (s : State) : (s.reEvaluateAll).slots = s.slots := rfl
@[simp] theorem State.reEvaluateAll_contacts (s : State) : (s.reEvaluateAll).contacts = s.contacts := rfl
@[simp] theorem State.reEvaluateAll_trunk (s : State) : (s.reEvaluateAll).trunk = s.trunk := rfl
@[simp] theorem State.reEvaluateAll_field (s : State) : (s.reEvaluateAll).field = s.field := rfl
@[simp] theorem State.reEvaluateAll_pins (s : State) : (s.reEvaluateAll).pins = s.pins := rfl

/-! ### notify -/

@[simp] theorem State.notify_pending (s : State) (k : AgentId) (n : Notice) : (s.notify k n).pending = s.pending :=
  rfl
@[simp] theorem State.notify_mode (s : State) (k : AgentId) (n : Notice) : (s.notify k n).mode = s.mode := rfl
@[simp] theorem State.notify_retained (s : State) (k : AgentId) (n : Notice) : (s.notify k n).retained = s.retained :=
  rfl
@[simp] theorem State.notify_role (s : State) (k : AgentId) (n : Notice) : (s.notify k n).role = s.role := rfl
@[simp] theorem State.notify_resyncWait (s : State) (k : AgentId) (n : Notice) :
    (s.notify k n).resyncWait = s.resyncWait := rfl
@[simp] theorem State.notify_resyncTries (s : State) (k : AgentId) (n : Notice) :
    (s.notify k n).resyncTries = s.resyncTries := rfl
@[simp] theorem State.notify_counters (s : State) (k : AgentId) (n : Notice) : (s.notify k n).counters = s.counters :=
  rfl
@[simp] theorem State.notify_straps (s : State) (k : AgentId) (n : Notice) : (s.notify k n).straps = s.straps := rfl
@[simp] theorem State.notify_sources (s : State) (k : AgentId) (n : Notice) : (s.notify k n).sources = s.sources :=
  rfl
@[simp] theorem State.notify_source (s : State) (k : AgentId) (n : Notice) (j : SourceIx) :
    (s.notify k n).source j = s.source j := rfl
@[simp] theorem State.notify_promotion (s : State) (k : AgentId) (n : Notice) :
    (s.notify k n).promotion = s.promotion := rfl
@[simp] theorem State.notify_promoSlot (s : State) (k : AgentId) (n : Notice) (j : SourceIx) :
    (s.notify k n).promoSlot j = s.promoSlot j := rfl
@[simp] theorem State.notify_agents (s : State) (k : AgentId) (n : Notice) :
    (s.notify k n).agents = s.agents.set k (if (s.agent k).attached then (s.agent k).putNotice n else s.agent k) :=
  rfl
@[simp] theorem State.notify_grantNumber (s : State) (k : AgentId) (n : Notice) :
    (s.notify k n).grantNumber = s.grantNumber := rfl
@[simp] theorem State.notify_nodes (s : State) (k : AgentId) (n : Notice) : (s.notify k n).nodes = s.nodes := rfl
@[simp] theorem State.notify_node (s : State) (k : AgentId) (n : Notice) (m : NodeId) :
    (s.notify k n).node m = s.node m := rfl
@[simp] theorem State.notify_waitList (s : State) (k : AgentId) (n : Notice) : (s.notify k n).waitList = s.waitList :=
  rfl
@[simp] theorem State.notify_slots (s : State) (k : AgentId) (n : Notice) : (s.notify k n).slots = s.slots := rfl
@[simp] theorem State.notify_contacts (s : State) (k : AgentId) (n : Notice) : (s.notify k n).contacts = s.contacts :=
  rfl
@[simp] theorem State.notify_trunk (s : State) (k : AgentId) (n : Notice) : (s.notify k n).trunk = s.trunk := rfl
@[simp] theorem State.notify_field (s : State) (k : AgentId) (n : Notice) : (s.notify k n).field = s.field := rfl
@[simp] theorem State.notify_pins (s : State) (k : AgentId) (n : Notice) : (s.notify k n).pins = s.pins := rfl

/-! ### notifyFlagged -/

@[simp] theorem State.notifyFlagged_pending (s : State) (n : Notice) : (s.notifyFlagged n).pending = s.pending := rfl
@[simp] theorem State.notifyFlagged_mode (s : State) (n : Notice) : (s.notifyFlagged n).mode = s.mode := rfl
@[simp] theorem State.notifyFlagged_retained (s : State) (n : Notice) : (s.notifyFlagged n).retained = s.retained :=
  rfl
@[simp] theorem State.notifyFlagged_role (s : State) (n : Notice) : (s.notifyFlagged n).role = s.role := rfl
@[simp] theorem State.notifyFlagged_resyncWait (s : State) (n : Notice) :
    (s.notifyFlagged n).resyncWait = s.resyncWait := rfl
@[simp] theorem State.notifyFlagged_resyncTries (s : State) (n : Notice) :
    (s.notifyFlagged n).resyncTries = s.resyncTries := rfl
@[simp] theorem State.notifyFlagged_counters (s : State) (n : Notice) : (s.notifyFlagged n).counters = s.counters :=
  rfl
@[simp] theorem State.notifyFlagged_straps (s : State) (n : Notice) : (s.notifyFlagged n).straps = s.straps := rfl
@[simp] theorem State.notifyFlagged_sources (s : State) (n : Notice) : (s.notifyFlagged n).sources = s.sources := rfl
@[simp] theorem State.notifyFlagged_source (s : State) (n : Notice) (j : SourceIx) :
    (s.notifyFlagged n).source j = s.source j := rfl
@[simp] theorem State.notifyFlagged_promotion (s : State) (n : Notice) :
    (s.notifyFlagged n).promotion = s.promotion := rfl
@[simp] theorem State.notifyFlagged_promoSlot (s : State) (n : Notice) (j : SourceIx) :
    (s.notifyFlagged n).promoSlot j = s.promoSlot j := rfl
@[simp] theorem State.notifyFlagged_agents (s : State) (n : Notice) :
    (s.notifyFlagged n).agents = s.agents.map fun a => if a.attached && a.noticeFlag then a.putNotice n else a := rfl
@[simp] theorem State.notifyFlagged_grantNumber (s : State) (n : Notice) :
    (s.notifyFlagged n).grantNumber = s.grantNumber := rfl
@[simp] theorem State.notifyFlagged_nodes (s : State) (n : Notice) : (s.notifyFlagged n).nodes = s.nodes := rfl
@[simp] theorem State.notifyFlagged_node (s : State) (n : Notice) (m : NodeId) :
    (s.notifyFlagged n).node m = s.node m := rfl
@[simp] theorem State.notifyFlagged_waitList (s : State) (n : Notice) : (s.notifyFlagged n).waitList = s.waitList :=
  rfl
@[simp] theorem State.notifyFlagged_slots (s : State) (n : Notice) : (s.notifyFlagged n).slots = s.slots := rfl
@[simp] theorem State.notifyFlagged_contacts (s : State) (n : Notice) : (s.notifyFlagged n).contacts = s.contacts :=
  rfl
@[simp] theorem State.notifyFlagged_trunk (s : State) (n : Notice) : (s.notifyFlagged n).trunk = s.trunk := rfl
@[simp] theorem State.notifyFlagged_field (s : State) (n : Notice) : (s.notifyFlagged n).field = s.field := rfl
@[simp] theorem State.notifyFlagged_pins (s : State) (n : Notice) : (s.notifyFlagged n).pins = s.pins := rfl

/-! ### enqueue -/

@[simp] theorem State.enqueue_pending (s : State) (n : NodeId) : (s.enqueue n).pending = s.pending := rfl
@[simp] theorem State.enqueue_mode (s : State) (n : NodeId) : (s.enqueue n).mode = s.mode := rfl
@[simp] theorem State.enqueue_retained (s : State) (n : NodeId) : (s.enqueue n).retained = s.retained := rfl
@[simp] theorem State.enqueue_role (s : State) (n : NodeId) : (s.enqueue n).role = s.role := rfl
@[simp] theorem State.enqueue_resyncWait (s : State) (n : NodeId) : (s.enqueue n).resyncWait = s.resyncWait := rfl
@[simp] theorem State.enqueue_resyncTries (s : State) (n : NodeId) : (s.enqueue n).resyncTries = s.resyncTries := rfl
@[simp] theorem State.enqueue_counters (s : State) (n : NodeId) : (s.enqueue n).counters = s.counters := rfl
@[simp] theorem State.enqueue_straps (s : State) (n : NodeId) : (s.enqueue n).straps = s.straps := rfl
@[simp] theorem State.enqueue_sources (s : State) (n : NodeId) : (s.enqueue n).sources = s.sources := rfl
@[simp] theorem State.enqueue_source (s : State) (n : NodeId) (j : SourceIx) : (s.enqueue n).source j = s.source j :=
  rfl
@[simp] theorem State.enqueue_promotion (s : State) (n : NodeId) : (s.enqueue n).promotion = s.promotion := rfl
@[simp] theorem State.enqueue_promoSlot (s : State) (n : NodeId) (j : SourceIx) :
    (s.enqueue n).promoSlot j = s.promoSlot j := rfl
@[simp] theorem State.enqueue_agents (s : State) (n : NodeId) : (s.enqueue n).agents = s.agents := rfl
@[simp] theorem State.enqueue_agent (s : State) (n : NodeId) (h : AgentId) : (s.enqueue n).agent h = s.agent h := rfl
@[simp] theorem State.enqueue_grantNumber (s : State) (n : NodeId) : (s.enqueue n).grantNumber = s.grantNumber := rfl
@[simp] theorem State.enqueue_nodes (s : State) (n : NodeId) :
    (s.enqueue n).nodes = (s.modNode n fun r => { r with state := .waiting }).nodes := rfl
@[simp] theorem State.enqueue_waitList (s : State) (n : NodeId) : (s.enqueue n).waitList = s.waitList ++ [n] := rfl
@[simp] theorem State.enqueue_slots (s : State) (n : NodeId) : (s.enqueue n).slots = s.slots := rfl
@[simp] theorem State.enqueue_contacts (s : State) (n : NodeId) : (s.enqueue n).contacts = s.contacts := rfl
@[simp] theorem State.enqueue_trunk (s : State) (n : NodeId) : (s.enqueue n).trunk = s.trunk := rfl
@[simp] theorem State.enqueue_field (s : State) (n : NodeId) : (s.enqueue n).field = s.field := rfl
@[simp] theorem State.enqueue_pins (s : State) (n : NodeId) : (s.enqueue n).pins = s.pins := rfl

/-! ### releaseNode -/

@[simp] theorem State.releaseNode_pending (s : State) (n : NodeId) : (s.releaseNode n).pending = s.pending := rfl
@[simp] theorem State.releaseNode_mode (s : State) (n : NodeId) : (s.releaseNode n).mode = s.mode := rfl
@[simp] theorem State.releaseNode_retained (s : State) (n : NodeId) : (s.releaseNode n).retained = s.retained := rfl
@[simp] theorem State.releaseNode_role (s : State) (n : NodeId) : (s.releaseNode n).role = s.role := rfl
@[simp] theorem State.releaseNode_resyncWait (s : State) (n : NodeId) : (s.releaseNode n).resyncWait = s.resyncWait :=
  rfl
@[simp] theorem State.releaseNode_resyncTries (s : State) (n : NodeId) :
    (s.releaseNode n).resyncTries = s.resyncTries := rfl
@[simp] theorem State.releaseNode_counters (s : State) (n : NodeId) : (s.releaseNode n).counters = s.counters := rfl
@[simp] theorem State.releaseNode_straps (s : State) (n : NodeId) : (s.releaseNode n).straps = s.straps := rfl
@[simp] theorem State.releaseNode_sources (s : State) (n : NodeId) : (s.releaseNode n).sources = s.sources := rfl
@[simp] theorem State.releaseNode_source (s : State) (n : NodeId) (j : SourceIx) :
    (s.releaseNode n).source j = s.source j := rfl
@[simp] theorem State.releaseNode_promotion (s : State) (n : NodeId) : (s.releaseNode n).promotion = s.promotion :=
  rfl
@[simp] theorem State.releaseNode_promoSlot (s : State) (n : NodeId) (j : SourceIx) :
    (s.releaseNode n).promoSlot j = s.promoSlot j := rfl
@[simp] theorem State.releaseNode_agents (s : State) (n : NodeId) : (s.releaseNode n).agents = s.agents := rfl
@[simp] theorem State.releaseNode_agent (s : State) (n : NodeId) (h : AgentId) :
    (s.releaseNode n).agent h = s.agent h := rfl
@[simp] theorem State.releaseNode_grantNumber (s : State) (n : NodeId) :
    (s.releaseNode n).grantNumber = s.grantNumber := rfl
@[simp] theorem State.releaseNode_nodes (s : State) (n : NodeId) : (s.releaseNode n).nodes = s.nodes := rfl
@[simp] theorem State.releaseNode_node (s : State) (n : NodeId) (m : NodeId) : (s.releaseNode n).node m = s.node m :=
  rfl
@[simp] theorem State.releaseNode_waitList (s : State) (n : NodeId) :
    (s.releaseNode n).waitList = s.waitList.filter fun m => decide (m ≠ n) := rfl
@[simp] theorem State.releaseNode_slots (s : State) (n : NodeId) :
    (s.releaseNode n).slots = s.slots.map fun o => o.filter fun e => decide (e.node ≠ n) := rfl
@[simp] theorem State.releaseNode_contacts (s : State) (n : NodeId) : (s.releaseNode n).contacts = s.contacts := rfl
@[simp] theorem State.releaseNode_trunk (s : State) (n : NodeId) : (s.releaseNode n).trunk = s.trunk := rfl
@[simp] theorem State.releaseNode_field (s : State) (n : NodeId) : (s.releaseNode n).field = s.field := rfl
@[simp] theorem State.releaseNode_pins (s : State) (n : NodeId) : (s.releaseNode n).pins = s.pins := rfl

/-! ### finishTrunk -/

@[simp] theorem State.finishTrunk_pending (s : State) : (s.finishTrunk).pending = s.pending := rfl
@[simp] theorem State.finishTrunk_mode (s : State) : (s.finishTrunk).mode = s.mode := rfl
@[simp] theorem State.finishTrunk_retained (s : State) : (s.finishTrunk).retained = s.retained := rfl
@[simp] theorem State.finishTrunk_role (s : State) : (s.finishTrunk).role = s.role := rfl
@[simp] theorem State.finishTrunk_resyncWait (s : State) : (s.finishTrunk).resyncWait = s.resyncWait := rfl
@[simp] theorem State.finishTrunk_resyncTries (s : State) : (s.finishTrunk).resyncTries = s.resyncTries := rfl
@[simp] theorem State.finishTrunk_counters (s : State) : (s.finishTrunk).counters = s.counters := rfl
@[simp] theorem State.finishTrunk_straps (s : State) : (s.finishTrunk).straps = s.straps := rfl
@[simp] theorem State.finishTrunk_sources (s : State) : (s.finishTrunk).sources = s.sources := rfl
@[simp] theorem State.finishTrunk_source (s : State) (j : SourceIx) : (s.finishTrunk).source j = s.source j := rfl
@[simp] theorem State.finishTrunk_promotion (s : State) : (s.finishTrunk).promotion = s.promotion := rfl
@[simp] theorem State.finishTrunk_promoSlot (s : State) (j : SourceIx) :
    (s.finishTrunk).promoSlot j = s.promoSlot j := rfl
@[simp] theorem State.finishTrunk_agents (s : State) : (s.finishTrunk).agents = s.agents := rfl
@[simp] theorem State.finishTrunk_agent (s : State) (h : AgentId) : (s.finishTrunk).agent h = s.agent h := rfl
@[simp] theorem State.finishTrunk_grantNumber (s : State) : (s.finishTrunk).grantNumber = s.grantNumber := rfl
@[simp] theorem State.finishTrunk_nodes (s : State) : (s.finishTrunk).nodes = s.nodes := rfl
@[simp] theorem State.finishTrunk_node (s : State) (m : NodeId) : (s.finishTrunk).node m = s.node m := rfl
@[simp] theorem State.finishTrunk_waitList (s : State) : (s.finishTrunk).waitList = s.waitList := rfl
@[simp] theorem State.finishTrunk_slots (s : State) : (s.finishTrunk).slots = s.slots := rfl
@[simp] theorem State.finishTrunk_contacts (s : State) : (s.finishTrunk).contacts = s.contacts := rfl
@[simp] theorem State.finishTrunk_trunk (s : State) : (s.finishTrunk).trunk = s.trunk.finishHead := rfl
@[simp] theorem State.finishTrunk_field (s : State) : (s.finishTrunk).field = s.field := rfl
@[simp] theorem State.finishTrunk_pins (s : State) : (s.finishTrunk).pins = s.pins := rfl

/-! ### finishField -/

@[simp] theorem State.finishField_pending (s : State) : (s.finishField).pending = s.pending := rfl
@[simp] theorem State.finishField_mode (s : State) : (s.finishField).mode = s.mode := rfl
@[simp] theorem State.finishField_retained (s : State) : (s.finishField).retained = s.retained := rfl
@[simp] theorem State.finishField_role (s : State) : (s.finishField).role = s.role := rfl
@[simp] theorem State.finishField_resyncWait (s : State) : (s.finishField).resyncWait = s.resyncWait := rfl
@[simp] theorem State.finishField_resyncTries (s : State) : (s.finishField).resyncTries = s.resyncTries := rfl
@[simp] theorem State.finishField_counters (s : State) : (s.finishField).counters = s.counters := rfl
@[simp] theorem State.finishField_straps (s : State) : (s.finishField).straps = s.straps := rfl
@[simp] theorem State.finishField_sources (s : State) : (s.finishField).sources = s.sources := rfl
@[simp] theorem State.finishField_source (s : State) (j : SourceIx) : (s.finishField).source j = s.source j := rfl
@[simp] theorem State.finishField_promotion (s : State) : (s.finishField).promotion = s.promotion := rfl
@[simp] theorem State.finishField_promoSlot (s : State) (j : SourceIx) :
    (s.finishField).promoSlot j = s.promoSlot j := rfl
@[simp] theorem State.finishField_agents (s : State) : (s.finishField).agents = s.agents := rfl
@[simp] theorem State.finishField_agent (s : State) (h : AgentId) : (s.finishField).agent h = s.agent h := rfl
@[simp] theorem State.finishField_grantNumber (s : State) : (s.finishField).grantNumber = s.grantNumber := rfl
@[simp] theorem State.finishField_nodes (s : State) : (s.finishField).nodes = s.nodes := rfl
@[simp] theorem State.finishField_node (s : State) (m : NodeId) : (s.finishField).node m = s.node m := rfl
@[simp] theorem State.finishField_waitList (s : State) : (s.finishField).waitList = s.waitList := rfl
@[simp] theorem State.finishField_slots (s : State) : (s.finishField).slots = s.slots := rfl
@[simp] theorem State.finishField_contacts (s : State) : (s.finishField).contacts = s.contacts := rfl
@[simp] theorem State.finishField_trunk (s : State) : (s.finishField).trunk = s.trunk := rfl
@[simp] theorem State.finishField_field (s : State) : (s.finishField).field = s.field.finishHead := rfl
@[simp] theorem State.finishField_pins (s : State) : (s.finishField).pins = s.pins := rfl

/-! ### dropStray -/

@[simp] theorem State.dropStray_pending (s : State) : (s.dropStray).pending = s.pending := rfl
@[simp] theorem State.dropStray_mode (s : State) : (s.dropStray).mode = s.mode := rfl
@[simp] theorem State.dropStray_retained (s : State) : (s.dropStray).retained = s.retained := rfl
@[simp] theorem State.dropStray_role (s : State) : (s.dropStray).role = s.role := rfl
@[simp] theorem State.dropStray_resyncWait (s : State) : (s.dropStray).resyncWait = s.resyncWait := rfl
@[simp] theorem State.dropStray_resyncTries (s : State) : (s.dropStray).resyncTries = s.resyncTries := rfl
@[simp] theorem State.dropStray_counters (s : State) : (s.dropStray).counters = s.counters.addStray := rfl
@[simp] theorem State.dropStray_straps (s : State) : (s.dropStray).straps = s.straps := rfl
@[simp] theorem State.dropStray_sources (s : State) : (s.dropStray).sources = s.sources := rfl
@[simp] theorem State.dropStray_source (s : State) (j : SourceIx) : (s.dropStray).source j = s.source j := rfl
@[simp] theorem State.dropStray_promotion (s : State) : (s.dropStray).promotion = s.promotion := rfl
@[simp] theorem State.dropStray_promoSlot (s : State) (j : SourceIx) : (s.dropStray).promoSlot j = s.promoSlot j :=
  rfl
@[simp] theorem State.dropStray_agents (s : State) : (s.dropStray).agents = s.agents := rfl
@[simp] theorem State.dropStray_agent (s : State) (h : AgentId) : (s.dropStray).agent h = s.agent h := rfl
@[simp] theorem State.dropStray_grantNumber (s : State) : (s.dropStray).grantNumber = s.grantNumber := rfl
@[simp] theorem State.dropStray_nodes (s : State) : (s.dropStray).nodes = s.nodes := rfl
@[simp] theorem State.dropStray_node (s : State) (m : NodeId) : (s.dropStray).node m = s.node m := rfl
@[simp] theorem State.dropStray_waitList (s : State) : (s.dropStray).waitList = s.waitList := rfl
@[simp] theorem State.dropStray_slots (s : State) : (s.dropStray).slots = s.slots := rfl
@[simp] theorem State.dropStray_contacts (s : State) : (s.dropStray).contacts = s.contacts := rfl
@[simp] theorem State.dropStray_trunk (s : State) : (s.dropStray).trunk = s.trunk := rfl
@[simp] theorem State.dropStray_field (s : State) : (s.dropStray).field = s.field.finishHead := rfl
@[simp] theorem State.dropStray_pins (s : State) : (s.dropStray).pins = s.pins := rfl

/-! ### lendField -/

@[simp] theorem State.lendField_pending (s : State) : (s.lendField).pending = s.pending := rfl
@[simp] theorem State.lendField_mode (s : State) : (s.lendField).mode = s.mode := rfl
@[simp] theorem State.lendField_retained (s : State) : (s.lendField).retained = s.retained := rfl
@[simp] theorem State.lendField_role (s : State) : (s.lendField).role = s.role := rfl
@[simp] theorem State.lendField_resyncWait (s : State) : (s.lendField).resyncWait = s.resyncWait := rfl
@[simp] theorem State.lendField_resyncTries (s : State) : (s.lendField).resyncTries = s.resyncTries := rfl
@[simp] theorem State.lendField_counters (s : State) : (s.lendField).counters = s.counters := rfl
@[simp] theorem State.lendField_straps (s : State) : (s.lendField).straps = s.straps := rfl
@[simp] theorem State.lendField_sources (s : State) : (s.lendField).sources = s.sources := rfl
@[simp] theorem State.lendField_source (s : State) (j : SourceIx) : (s.lendField).source j = s.source j := rfl
@[simp] theorem State.lendField_promotion (s : State) : (s.lendField).promotion = s.promotion := rfl
@[simp] theorem State.lendField_promoSlot (s : State) (j : SourceIx) : (s.lendField).promoSlot j = s.promoSlot j :=
  rfl
@[simp] theorem State.lendField_agents (s : State) : (s.lendField).agents = s.agents := rfl
@[simp] theorem State.lendField_agent (s : State) (h : AgentId) : (s.lendField).agent h = s.agent h := rfl
@[simp] theorem State.lendField_grantNumber (s : State) : (s.lendField).grantNumber = s.grantNumber := rfl
@[simp] theorem State.lendField_nodes (s : State) : (s.lendField).nodes = s.nodes := rfl
@[simp] theorem State.lendField_node (s : State) (m : NodeId) : (s.lendField).node m = s.node m := rfl
@[simp] theorem State.lendField_waitList (s : State) : (s.lendField).waitList = s.waitList := rfl
@[simp] theorem State.lendField_slots (s : State) : (s.lendField).slots = s.slots := rfl
@[simp] theorem State.lendField_contacts (s : State) : (s.lendField).contacts = s.contacts := rfl
@[simp] theorem State.lendField_trunk (s : State) : (s.lendField).trunk = s.trunk := rfl
@[simp] theorem State.lendField_field (s : State) :
    (s.lendField).field = Line.sendCredits { s.field with creditGiven := Config.receiveBuffers } Config.receiveBuffers :=
  rfl
@[simp] theorem State.lendField_pins (s : State) : (s.lendField).pins = s.pins := rfl

/-! ### answer -/

@[simp] theorem State.answer_pending (s : State) (f : Frame) (r : Reply) : (s.answer f r).pending = s.pending := rfl
@[simp] theorem State.answer_mode (s : State) (f : Frame) (r : Reply) : (s.answer f r).mode = s.mode := rfl
@[simp] theorem State.answer_retained (s : State) (f : Frame) (r : Reply) : (s.answer f r).retained = s.retained :=
  rfl
@[simp] theorem State.answer_role (s : State) (f : Frame) (r : Reply) : (s.answer f r).role = s.role := rfl
@[simp] theorem State.answer_resyncWait (s : State) (f : Frame) (r : Reply) :
    (s.answer f r).resyncWait = s.resyncWait := rfl
@[simp] theorem State.answer_resyncTries (s : State) (f : Frame) (r : Reply) :
    (s.answer f r).resyncTries = s.resyncTries := rfl
@[simp] theorem State.answer_counters (s : State) (f : Frame) (r : Reply) : (s.answer f r).counters = s.counters :=
  rfl
@[simp] theorem State.answer_straps (s : State) (f : Frame) (r : Reply) : (s.answer f r).straps = s.straps := rfl
@[simp] theorem State.answer_sources (s : State) (f : Frame) (r : Reply) : (s.answer f r).sources = s.sources := rfl
@[simp] theorem State.answer_source (s : State) (f : Frame) (r : Reply) (j : SourceIx) :
    (s.answer f r).source j = s.source j := rfl
@[simp] theorem State.answer_promotion (s : State) (f : Frame) (r : Reply) : (s.answer f r).promotion = s.promotion :=
  rfl
@[simp] theorem State.answer_promoSlot (s : State) (f : Frame) (r : Reply) (j : SourceIx) :
    (s.answer f r).promoSlot j = s.promoSlot j := rfl
@[simp] theorem State.answer_agents (s : State) (f : Frame) (r : Reply) : (s.answer f r).agents = s.agents := rfl
@[simp] theorem State.answer_agent (s : State) (f : Frame) (r : Reply) (h : AgentId) :
    (s.answer f r).agent h = s.agent h := rfl
@[simp] theorem State.answer_grantNumber (s : State) (f : Frame) (r : Reply) :
    (s.answer f r).grantNumber = s.grantNumber := rfl
@[simp] theorem State.answer_nodes (s : State) (f : Frame) (r : Reply) : (s.answer f r).nodes = s.nodes := rfl
@[simp] theorem State.answer_node (s : State) (f : Frame) (r : Reply) (m : NodeId) :
    (s.answer f r).node m = s.node m := rfl
@[simp] theorem State.answer_waitList (s : State) (f : Frame) (r : Reply) : (s.answer f r).waitList = s.waitList :=
  rfl
@[simp] theorem State.answer_slots (s : State) (f : Frame) (r : Reply) : (s.answer f r).slots = s.slots := rfl
@[simp] theorem State.answer_contacts (s : State) (f : Frame) (r : Reply) : (s.answer f r).contacts = s.contacts :=
  rfl
@[simp] theorem State.answer_trunk (s : State) (f : Frame) (r : Reply) :
    (s.answer f r).trunk = s.trunk.finishHead.place (s.replyFrame f r) r.restart := rfl
@[simp] theorem State.answer_field (s : State) (f : Frame) (r : Reply) : (s.answer f r).field = s.field := rfl
@[simp] theorem State.answer_pins (s : State) (f : Frame) (r : Reply) : (s.answer f r).pins = s.pins := rfl

/-! ### driveRstn -/

@[simp] theorem State.driveRstn_pending (s : State) (b : Bool) : (s.driveRstn b).pending = s.pending := rfl
@[simp] theorem State.driveRstn_mode (s : State) (b : Bool) : (s.driveRstn b).mode = s.mode := rfl
@[simp] theorem State.driveRstn_retained (s : State) (b : Bool) : (s.driveRstn b).retained = s.retained := rfl
@[simp] theorem State.driveRstn_role (s : State) (b : Bool) : (s.driveRstn b).role = s.role := rfl
@[simp] theorem State.driveRstn_resyncWait (s : State) (b : Bool) : (s.driveRstn b).resyncWait = s.resyncWait := rfl
@[simp] theorem State.driveRstn_resyncTries (s : State) (b : Bool) : (s.driveRstn b).resyncTries = s.resyncTries :=
  rfl
@[simp] theorem State.driveRstn_counters (s : State) (b : Bool) : (s.driveRstn b).counters = s.counters := rfl
@[simp] theorem State.driveRstn_straps (s : State) (b : Bool) : (s.driveRstn b).straps = s.straps := rfl
@[simp] theorem State.driveRstn_sources (s : State) (b : Bool) : (s.driveRstn b).sources = s.sources := rfl
@[simp] theorem State.driveRstn_source (s : State) (b : Bool) (j : SourceIx) :
    (s.driveRstn b).source j = s.source j := rfl
@[simp] theorem State.driveRstn_promotion (s : State) (b : Bool) : (s.driveRstn b).promotion = s.promotion := rfl
@[simp] theorem State.driveRstn_promoSlot (s : State) (b : Bool) (j : SourceIx) :
    (s.driveRstn b).promoSlot j = s.promoSlot j := rfl
@[simp] theorem State.driveRstn_agents (s : State) (b : Bool) : (s.driveRstn b).agents = s.agents := rfl
@[simp] theorem State.driveRstn_agent (s : State) (b : Bool) (h : AgentId) : (s.driveRstn b).agent h = s.agent h :=
  rfl
@[simp] theorem State.driveRstn_grantNumber (s : State) (b : Bool) : (s.driveRstn b).grantNumber = s.grantNumber :=
  rfl
@[simp] theorem State.driveRstn_nodes (s : State) (b : Bool) : (s.driveRstn b).nodes = s.nodes := rfl
@[simp] theorem State.driveRstn_node (s : State) (b : Bool) (m : NodeId) : (s.driveRstn b).node m = s.node m := rfl
@[simp] theorem State.driveRstn_waitList (s : State) (b : Bool) : (s.driveRstn b).waitList = s.waitList := rfl
@[simp] theorem State.driveRstn_slots (s : State) (b : Bool) : (s.driveRstn b).slots = s.slots := rfl
@[simp] theorem State.driveRstn_contacts (s : State) (b : Bool) : (s.driveRstn b).contacts = s.contacts := rfl
@[simp] theorem State.driveRstn_trunk (s : State) (b : Bool) : (s.driveRstn b).trunk = s.trunk := rfl
@[simp] theorem State.driveRstn_field (s : State) (b : Bool) : (s.driveRstn b).field = s.field := rfl
@[simp] theorem State.driveRstn_pins (s : State) (b : Bool) : (s.driveRstn b).pins = { s.pins with rstn := b } := rfl

/-! ### readStraps -/

@[simp] theorem State.readStraps_pending (s : State) (v : BitVec 3) : (s.readStraps v).pending = s.pending := rfl
@[simp] theorem State.readStraps_mode (s : State) (v : BitVec 3) : (s.readStraps v).mode = s.mode := rfl
@[simp] theorem State.readStraps_retained (s : State) (v : BitVec 3) : (s.readStraps v).retained = s.retained := rfl
@[simp] theorem State.readStraps_role (s : State) (v : BitVec 3) : (s.readStraps v).role = s.role := rfl
@[simp] theorem State.readStraps_resyncWait (s : State) (v : BitVec 3) : (s.readStraps v).resyncWait = s.resyncWait :=
  rfl
@[simp] theorem State.readStraps_resyncTries (s : State) (v : BitVec 3) :
    (s.readStraps v).resyncTries = s.resyncTries := rfl
@[simp] theorem State.readStraps_counters (s : State) (v : BitVec 3) : (s.readStraps v).counters = s.counters := rfl
@[simp] theorem State.readStraps_straps (s : State) (v : BitVec 3) : (s.readStraps v).straps = v := rfl
@[simp] theorem State.readStraps_sources (s : State) (v : BitVec 3) : (s.readStraps v).sources = s.sources := rfl
@[simp] theorem State.readStraps_source (s : State) (v : BitVec 3) (j : SourceIx) :
    (s.readStraps v).source j = s.source j := rfl
@[simp] theorem State.readStraps_promotion (s : State) (v : BitVec 3) : (s.readStraps v).promotion = s.promotion :=
  rfl
@[simp] theorem State.readStraps_promoSlot (s : State) (v : BitVec 3) (j : SourceIx) :
    (s.readStraps v).promoSlot j = s.promoSlot j := rfl
@[simp] theorem State.readStraps_agents (s : State) (v : BitVec 3) : (s.readStraps v).agents = s.agents := rfl
@[simp] theorem State.readStraps_agent (s : State) (v : BitVec 3) (h : AgentId) :
    (s.readStraps v).agent h = s.agent h := rfl
@[simp] theorem State.readStraps_grantNumber (s : State) (v : BitVec 3) :
    (s.readStraps v).grantNumber = s.grantNumber := rfl
@[simp] theorem State.readStraps_nodes (s : State) (v : BitVec 3) : (s.readStraps v).nodes = s.nodes := rfl
@[simp] theorem State.readStraps_node (s : State) (v : BitVec 3) (m : NodeId) : (s.readStraps v).node m = s.node m :=
  rfl
@[simp] theorem State.readStraps_waitList (s : State) (v : BitVec 3) : (s.readStraps v).waitList = s.waitList := rfl
@[simp] theorem State.readStraps_slots (s : State) (v : BitVec 3) : (s.readStraps v).slots = s.slots := rfl
@[simp] theorem State.readStraps_contacts (s : State) (v : BitVec 3) : (s.readStraps v).contacts = s.contacts := rfl
@[simp] theorem State.readStraps_trunk (s : State) (v : BitVec 3) : (s.readStraps v).trunk = s.trunk := rfl
@[simp] theorem State.readStraps_field (s : State) (v : BitVec 3) : (s.readStraps v).field = s.field := rfl
@[simp] theorem State.readStraps_pins (s : State) (v : BitVec 3) :
    (s.readStraps v).pins = { s.pins with straps := v } := rfl

/-! ### setTrunk -/

@[simp] theorem State.setTrunk_pending (s : State) (l : Line) : (s.setLine .trunk l).pending = s.pending := rfl
@[simp] theorem State.setTrunk_mode (s : State) (l : Line) : (s.setLine .trunk l).mode = s.mode := rfl
@[simp] theorem State.setTrunk_retained (s : State) (l : Line) : (s.setLine .trunk l).retained = s.retained := rfl
@[simp] theorem State.setTrunk_role (s : State) (l : Line) : (s.setLine .trunk l).role = s.role := rfl
@[simp] theorem State.setTrunk_resyncWait (s : State) (l : Line) : (s.setLine .trunk l).resyncWait = s.resyncWait :=
  rfl
@[simp] theorem State.setTrunk_resyncTries (s : State) (l : Line) :
    (s.setLine .trunk l).resyncTries = s.resyncTries := rfl
@[simp] theorem State.setTrunk_counters (s : State) (l : Line) : (s.setLine .trunk l).counters = s.counters := rfl
@[simp] theorem State.setTrunk_straps (s : State) (l : Line) : (s.setLine .trunk l).straps = s.straps := rfl
@[simp] theorem State.setTrunk_sources (s : State) (l : Line) : (s.setLine .trunk l).sources = s.sources := rfl
@[simp] theorem State.setTrunk_source (s : State) (l : Line) (j : SourceIx) :
    (s.setLine .trunk l).source j = s.source j := rfl
@[simp] theorem State.setTrunk_promotion (s : State) (l : Line) : (s.setLine .trunk l).promotion = s.promotion := rfl
@[simp] theorem State.setTrunk_promoSlot (s : State) (l : Line) (j : SourceIx) :
    (s.setLine .trunk l).promoSlot j = s.promoSlot j := rfl
@[simp] theorem State.setTrunk_agents (s : State) (l : Line) : (s.setLine .trunk l).agents = s.agents := rfl
@[simp] theorem State.setTrunk_agent (s : State) (l : Line) (h : AgentId) :
    (s.setLine .trunk l).agent h = s.agent h := rfl
@[simp] theorem State.setTrunk_grantNumber (s : State) (l : Line) :
    (s.setLine .trunk l).grantNumber = s.grantNumber := rfl
@[simp] theorem State.setTrunk_nodes (s : State) (l : Line) : (s.setLine .trunk l).nodes = s.nodes := rfl
@[simp] theorem State.setTrunk_node (s : State) (l : Line) (m : NodeId) : (s.setLine .trunk l).node m = s.node m :=
  rfl
@[simp] theorem State.setTrunk_waitList (s : State) (l : Line) : (s.setLine .trunk l).waitList = s.waitList := rfl
@[simp] theorem State.setTrunk_slots (s : State) (l : Line) : (s.setLine .trunk l).slots = s.slots := rfl
@[simp] theorem State.setTrunk_contacts (s : State) (l : Line) : (s.setLine .trunk l).contacts = s.contacts := rfl
@[simp] theorem State.setTrunk_trunk (s : State) (l : Line) : (s.setLine .trunk l).trunk = l := rfl
@[simp] theorem State.setTrunk_field (s : State) (l : Line) : (s.setLine .trunk l).field = s.field := rfl
@[simp] theorem State.setTrunk_pins (s : State) (l : Line) : (s.setLine .trunk l).pins = s.pins := rfl

/-! ### setField -/

@[simp] theorem State.setField_pending (s : State) (l : Line) : (s.setLine .field l).pending = s.pending := rfl
@[simp] theorem State.setField_mode (s : State) (l : Line) : (s.setLine .field l).mode = s.mode := rfl
@[simp] theorem State.setField_retained (s : State) (l : Line) : (s.setLine .field l).retained = s.retained := rfl
@[simp] theorem State.setField_role (s : State) (l : Line) : (s.setLine .field l).role = s.role := rfl
@[simp] theorem State.setField_resyncWait (s : State) (l : Line) : (s.setLine .field l).resyncWait = s.resyncWait :=
  rfl
@[simp] theorem State.setField_resyncTries (s : State) (l : Line) :
    (s.setLine .field l).resyncTries = s.resyncTries := rfl
@[simp] theorem State.setField_counters (s : State) (l : Line) : (s.setLine .field l).counters = s.counters := rfl
@[simp] theorem State.setField_straps (s : State) (l : Line) : (s.setLine .field l).straps = s.straps := rfl
@[simp] theorem State.setField_sources (s : State) (l : Line) : (s.setLine .field l).sources = s.sources := rfl
@[simp] theorem State.setField_source (s : State) (l : Line) (j : SourceIx) :
    (s.setLine .field l).source j = s.source j := rfl
@[simp] theorem State.setField_promotion (s : State) (l : Line) : (s.setLine .field l).promotion = s.promotion := rfl
@[simp] theorem State.setField_promoSlot (s : State) (l : Line) (j : SourceIx) :
    (s.setLine .field l).promoSlot j = s.promoSlot j := rfl
@[simp] theorem State.setField_agents (s : State) (l : Line) : (s.setLine .field l).agents = s.agents := rfl
@[simp] theorem State.setField_agent (s : State) (l : Line) (h : AgentId) :
    (s.setLine .field l).agent h = s.agent h := rfl
@[simp] theorem State.setField_grantNumber (s : State) (l : Line) :
    (s.setLine .field l).grantNumber = s.grantNumber := rfl
@[simp] theorem State.setField_nodes (s : State) (l : Line) : (s.setLine .field l).nodes = s.nodes := rfl
@[simp] theorem State.setField_node (s : State) (l : Line) (m : NodeId) : (s.setLine .field l).node m = s.node m :=
  rfl
@[simp] theorem State.setField_waitList (s : State) (l : Line) : (s.setLine .field l).waitList = s.waitList := rfl
@[simp] theorem State.setField_slots (s : State) (l : Line) : (s.setLine .field l).slots = s.slots := rfl
@[simp] theorem State.setField_contacts (s : State) (l : Line) : (s.setLine .field l).contacts = s.contacts := rfl
@[simp] theorem State.setField_trunk (s : State) (l : Line) : (s.setLine .field l).trunk = s.trunk := rfl
@[simp] theorem State.setField_field (s : State) (l : Line) : (s.setLine .field l).field = l := rfl
@[simp] theorem State.setField_pins (s : State) (l : Line) : (s.setLine .field l).pins = s.pins := rfl

/-! ### fieldNodesDown -/

@[simp] theorem State.fieldNodesDown_pending (s : State) : (s.fieldNodesDown).pending = s.pending := rfl
@[simp] theorem State.fieldNodesDown_mode (s : State) : (s.fieldNodesDown).mode = s.mode := rfl
@[simp] theorem State.fieldNodesDown_retained (s : State) : (s.fieldNodesDown).retained = s.retained := rfl
@[simp] theorem State.fieldNodesDown_role (s : State) : (s.fieldNodesDown).role = s.role := rfl
@[simp] theorem State.fieldNodesDown_resyncWait (s : State) : (s.fieldNodesDown).resyncWait = s.resyncWait := rfl
@[simp] theorem State.fieldNodesDown_resyncTries (s : State) : (s.fieldNodesDown).resyncTries = s.resyncTries := rfl
@[simp] theorem State.fieldNodesDown_counters (s : State) : (s.fieldNodesDown).counters = s.counters := rfl
@[simp] theorem State.fieldNodesDown_straps (s : State) : (s.fieldNodesDown).straps = s.straps := rfl
@[simp] theorem State.fieldNodesDown_promotion (s : State) : (s.fieldNodesDown).promotion = s.promotion := rfl
@[simp] theorem State.fieldNodesDown_promoSlot (s : State) (j : SourceIx) :
    (s.fieldNodesDown).promoSlot j = s.promoSlot j := rfl
@[simp] theorem State.fieldNodesDown_agents (s : State) : (s.fieldNodesDown).agents = s.agents := rfl
@[simp] theorem State.fieldNodesDown_agent (s : State) (h : AgentId) : (s.fieldNodesDown).agent h = s.agent h := rfl
@[simp] theorem State.fieldNodesDown_grantNumber (s : State) : (s.fieldNodesDown).grantNumber = s.grantNumber := rfl
@[simp] theorem State.fieldNodesDown_waitList (s : State) : (s.fieldNodesDown).waitList = s.fieldNodes := rfl
@[simp] theorem State.fieldNodesDown_slots (s : State) : (s.fieldNodesDown).slots = Vector.replicate 4 none := rfl
@[simp] theorem State.fieldNodesDown_contacts (s : State) : (s.fieldNodesDown).contacts = s.contacts := rfl
@[simp] theorem State.fieldNodesDown_trunk (s : State) : (s.fieldNodesDown).trunk = s.trunk := rfl
@[simp] theorem State.fieldNodesDown_field (s : State) : (s.fieldNodesDown).field = s.field := rfl
@[simp] theorem State.fieldNodesDown_pins (s : State) : (s.fieldNodesDown).pins = s.pins := rfl

end Sys2Proof.Machine
end

