-- ==== Sys2Proof/Laws/Tables.lean ====
section
/-! SUPPORT. What a table reads as after each of its updates, and what the loaded sources are. -/

namespace Sys2Proof.Machine

open Sys2Proof

/-! ## Reads after writes -/

theorem State.source_setSource (s : State) (i j : SourceIx) (a : Option Source) :
    (s.setSource i a).source j = if i = j then a else s.source j := by
  simp [State.source, State.setSource, Vector.getElem_set, Fin.ext_iff]

@[simp] theorem State.source_setSource_same (s : State) (i : SourceIx) (a : Option Source) :
    (s.setSource i a).source i = a := by simp [State.source_setSource]

theorem State.source_setSource_of_ne (s : State) {i j : SourceIx} (a : Option Source) (h : i ≠ j) :
    (s.setSource i a).source j = s.source j := by simp [State.source_setSource, h]

theorem State.agent_setAgent (s : State) (k j : AgentId) (a : Agent) :
    (s.setAgent k a).agent j = if k = j then a else s.agent j := by
  simp [State.agent, State.setAgent, Vector.getElem_set, Fin.ext_iff]

@[simp] theorem State.agent_setAgent_same (s : State) (k : AgentId) (a : Agent) : (s.setAgent k a).agent k = a := by
  simp [State.agent_setAgent]

theorem State.agent_modAgent (s : State) (k j : AgentId) (f : Agent → Agent) :
    (s.modAgent k f).agent j = if k = j then f (s.agent k) else s.agent j := s.agent_setAgent k j _

@[simp] theorem State.agent_modAgent_same (s : State) (k : AgentId) (f : Agent → Agent) :
    (s.modAgent k f).agent k = f (s.agent k) := by simp [State.agent_modAgent]

theorem State.node_setNode (s : State) (n m : NodeId) (r : Option Node) :
    (s.setNode n r).node m = if n = m then r else s.node m := by
  simp [State.node, State.setNode, Vector.getElem_set, Fin.ext_iff]

@[simp] theorem State.node_setNode_same (s : State) (n : NodeId) (r : Option Node) : (s.setNode n r).node n = r := by
  simp [State.node_setNode]

theorem State.node_modNode (s : State) (n m : NodeId) (f : Node → Node) :
    (s.modNode n f).node m = if n = m then (s.node n).map f else s.node m := s.node_setNode n m _

@[simp] theorem State.node_modNode_same (s : State) (n : NodeId) (f : Node → Node) :
    (s.modNode n f).node n = (s.node n).map f := by simp [State.node_modNode]

theorem State.node_enqueue (s : State) (n m : NodeId) :
    (s.enqueue n).node m = if n = m then (s.node n).map fun r => { r with state := .waiting } else s.node m :=
  s.node_modNode n m _

theorem State.source_mapSourcesOf (s : State) (n : NodeId) (f : Source → Source) (i : SourceIx) :
    (s.mapSourcesOf n f).source i = (s.source i).map fun a => if a.config.node = n then f a else a := by
  simp [State.source, State.mapSourcesOf]

theorem State.source_markUncertain (s : State) (n : NodeId) (b : Bool) (i : SourceIx) :
    (s.markUncertain n b).source i =
      (s.source i).map fun a => if a.config.node = n then { a with uncertain := b } else a :=
  s.source_mapSourcesOf n _ i

theorem State.agent_reEvaluate (s : State) (k j : AgentId) :
    (s.reEvaluate k).agent j = if k = j then s.evaluated k else s.agent j := s.agent_setAgent k j _

@[simp] theorem State.agent_reEvaluateAll (s : State) (k : AgentId) : s.reEvaluateAll.agent k = s.evaluated k := by
  simp [State.agent, State.reEvaluateAll]

theorem State.agent_notify (s : State) (k j : AgentId) (n : Notice) :
    (s.notify k n).agent j =
      if k = j then (if (s.agent k).attached then (s.agent k).putNotice n else s.agent k) else s.agent j :=
  s.agent_modAgent k j _

theorem State.agent_notifyFlagged (s : State) (n : Notice) (k : AgentId) :
    (s.notifyFlagged n).agent k =
      if (s.agent k).attached && (s.agent k).noticeFlag then (s.agent k).putNotice n else s.agent k := by
  simp [State.agent, State.notifyFlagged]

@[simp] theorem State.line_setLine_same (s : State) (p : PortId) (l : Line) : (s.setLine p l).line p = l := by
  cases p <;> rfl

/-! ## Equal tables -/

theorem State.sources_ext {s t : State} (h : ∀ i : SourceIx, s.source i = t.source i) : s.sources = t.sources :=
  Vector.ext fun i hi => h ⟨i, hi⟩

theorem State.agents_ext {s t : State} (h : ∀ k : AgentId, s.agent k = t.agent k) : s.agents = t.agents :=
  Vector.ext fun i hi => h ⟨i, hi⟩

theorem State.nodes_ext {s t : State} (h : ∀ n : NodeId, s.node n = t.node n) : s.nodes = t.nodes :=
  Vector.ext fun i hi => h ⟨i, hi⟩

/-! ## The loaded sources -/

theorem State.mem_loaded (s : State) (i : SourceIx) (a : Source) : (i, a) ∈ s.loaded ↔ s.source i = some a := by
  simp only [State.loaded, List.mem_filterMap, Option.map_eq_some_iff, Prod.mk.injEq, Prod.exists]
  constructor
  · rintro ⟨j, o, hmem, b, rfl, rfl, rfl⟩
    obtain ⟨n, hn, he⟩ := List.getElem_of_mem hmem
    simp only [List.getElem_zip, List.getElem_finRange, Prod.mk.injEq] at he
    obtain ⟨h1, h2⟩ := he
    simp only [Vector.getElem_toList] at h2
    rw [← h1]
    exact h2
  · intro h
    refine ⟨i, some a, ?_, a, rfl, rfl, rfl⟩
    have hl : i.val < ((List.finRange 256).zip s.sources.toList).length := by simp
    have := List.getElem_mem hl
    simp only [List.getElem_zip, List.getElem_finRange, Vector.getElem_toList] at this
    have e : s.sources[i.val]'(by omega) = some a := h
    rw [e] at this
    exact this

/-- What `keyed` finds is keyed to the signal. -/
theorem State.keyed_some (s : State) (n : NodeId) (c : Channel) (i : SourceIx) (h : s.keyed n c = some i) :
    ∃ a, s.source i = some a ∧ a.config.node = n ∧ a.config.channel = c := by
  simp only [State.keyed, Option.map_eq_some_iff, Prod.exists] at h
  obtain ⟨j, a, ha, rfl⟩ := h
  have h1 := List.find?_some ha
  have h2 := List.mem_of_find?_eq_some ha
  exact ⟨a, (s.mem_loaded _ a).1 h2, by simpa using h1⟩

/-- `keyed` finds nothing exactly when no loaded source is keyed to the signal. -/
theorem State.keyed_none (s : State) (n : NodeId) (c : Channel) :
    s.keyed n c = none ↔ ∀ i a, s.source i = some a → ¬ (a.config.node = n ∧ a.config.channel = c) := by
  simp only [State.keyed, Option.map_eq_none_iff, List.find?_eq_none, Prod.forall, decide_eq_true_eq]
  exact forall_congr' fun i => forall_congr' fun a => by rw [s.mem_loaded i a]

/-- No source is counted for a node exactly when none is keyed to it. -/
theorem State.keyedCount_eq_zero (s : State) (n : NodeId) :
    s.keyedCount n = 0 ↔ ∀ i a, s.source i = some a → a.config.node ≠ n := by
  simp only [State.keyedCount, List.length_eq_zero_iff, List.filter_eq_nil_iff, Prod.forall, decide_eq_true_eq]
  exact forall_congr' fun i => forall_congr' fun a => by rw [s.mem_loaded i a]

/-- The count of a node's sources, over the table. -/
theorem State.keyedCount_eq (s : State) (n : NodeId) :
    s.keyedCount n = (List.finRange 256).countP fun i => (s.source i).any fun a => decide (a.config.node = n) := by
  have hz : (List.finRange 256).zip s.sources.toList = (List.finRange 256).map fun i => (i, s.source i) := by
    refine List.ext_getElem (by simp) fun i h1 h2 => ?_
    simp [State.source]
  simp only [State.keyedCount, State.loaded, hz, List.filterMap_map, ← List.countP_eq_length_filter,
    List.countP_filterMap]
  refine List.countP_congr fun i _ => ?_
  cases h : s.source i <;> simp [h]

/-- What marking a node's sources writes into the table. -/
theorem State.markUncertain_eq (s : State) (n : NodeId) (b : Bool) : s.markUncertain n b = { s with
    sources := Vector.ofFn fun i => (s.source i).map fun a =>
      if a.config.node = n then { a with uncertain := b } else a } := by
  have h : s.sources.map (Option.map fun a => if a.config.node = n then { a with uncertain := b } else a) =
      Vector.ofFn fun i => (s.source i).map fun a => if a.config.node = n then { a with uncertain := b } else a :=
    Vector.ext fun i hi => by simp [State.source]
  simp only [State.markUncertain, State.mapSourcesOf, h]

/-- The slot `promoSlot` finds names the index. -/
theorem State.promoSlot_some (s : State) (i : SourceIx) (p : PromoSlot) (h : s.promoSlot i = some p) :
    s.promotion[p] = some i := by simpa [State.promoSlot] using List.find?_some h

/-- `promoSlot` finds none exactly when no entry names the index. -/
theorem State.promoSlot_none (s : State) (i : SourceIx) :
    s.promoSlot i = none ↔ ∀ p : PromoSlot, s.promotion[p] ≠ some i := by
  simp [State.promoSlot, List.find?_eq_none]

/-- What reads depend on: a state with the same sources has the same loaded sources. -/
theorem State.loaded_congr {s t : State} (h : s.sources = t.sources) : s.loaded = t.loaded := by
  simp only [State.loaded, h]

theorem State.keyed_congr {s t : State} (h : s.sources = t.sources) : s.keyed = t.keyed := by
  funext n c
  simp only [State.keyed, State.loaded_congr h]

theorem State.promoSlot_congr {s t : State} (h : s.promotion = t.promotion) : s.promoSlot = t.promoSlot := by
  funext i
  simp only [State.promoSlot, h]

theorem State.effectiveRank_congr {s t : State} (h : s.promotion = t.promotion) :
    s.effectiveRank = t.effectiveRank := by
  funext i a
  simp only [State.effectiveRank, State.promoSlot_congr h]

theorem State.best_congr {s t : State} (hs : s.sources = t.sources) (hp : s.promotion = t.promotion) :
    s.best = t.best := by
  funext P
  have hb : s.before = t.before := by
    funext p q
    simp only [State.before, State.effectiveRank_congr hp, State.promoSlot_congr hp]
  have hk : s.pick = t.pick := by
    funext m p
    simp only [State.pick, hb]
  simp only [State.best, State.first, State.loaded_congr hs, hk]

/-- The attention rank depends on the sources, the promotion table and the agent's session and mask alone. -/
theorem State.attention_congr {s t : State} (k : AgentId) (hs : s.sources = t.sources)
    (hp : s.promotion = t.promotion) (hm : (s.agent k).mask = (t.agent k).mask)
    (ha : (s.agent k).session = (t.agent k).session) : s.attention k = t.attention k := by
  have hr : s.raises k = t.raises k := by
    funext i a
    simp only [State.raises, hm, State.effectiveRank_congr hp]
  have hq : (s.agent k).attached = (t.agent k).attached := by simp only [Agent.attached, ha]
  simp only [State.attention, hq, State.best_congr hs hp, hr, State.effectiveRank_congr hp]

end Sys2Proof.Machine
end

