-- ==== Sys2Proof/Laws/Frames.lean ====
section
/-! SUPPORT. The frame of each compound operation: the fields it leaves as they were. -/

namespace Sys2Proof.Machine

open Sys2Proof

/-- A quantity that one step of a fold keeps is kept by the fold. -/
theorem foldl_keeps {α β : Type} (p : State → β) (f : State → α → State) (h : ∀ s a, p (f s a) = p s) (l : List α)
    (s : State) : p (l.foldl f s) = p s := by
  induction l generalizing s with
  | nil => rfl
  | cons a l ih => rw [List.foldl_cons, ih, h]

/-! ### changeSource -/

@[simp] theorem State.changeSource_pending (s : State) (i : SourceIx) (f : Source → Source) :
    (s.changeSource i f).pending = s.pending := by
  unfold State.changeSource
  split
  · rfl
  · dsimp only
    split <;> rfl
@[simp] theorem State.changeSource_mode (s : State) (i : SourceIx) (f : Source → Source) :
    (s.changeSource i f).mode = s.mode := by
  unfold State.changeSource
  split
  · rfl
  · dsimp only
    split <;> rfl
@[simp] theorem State.changeSource_retained (s : State) (i : SourceIx) (f : Source → Source) :
    (s.changeSource i f).retained = s.retained := by
  unfold State.changeSource
  split
  · rfl
  · dsimp only
    split <;> rfl
@[simp] theorem State.changeSource_role (s : State) (i : SourceIx) (f : Source → Source) :
    (s.changeSource i f).role = s.role := by
  unfold State.changeSource
  split
  · rfl
  · dsimp only
    split <;> rfl
@[simp] theorem State.changeSource_resyncWait (s : State) (i : SourceIx) (f : Source → Source) :
    (s.changeSource i f).resyncWait = s.resyncWait := by
  unfold State.changeSource
  split
  · rfl
  · dsimp only
    split <;> rfl
@[simp] theorem State.changeSource_resyncTries (s : State) (i : SourceIx) (f : Source → Source) :
    (s.changeSource i f).resyncTries = s.resyncTries := by
  unfold State.changeSource
  split
  · rfl
  · dsimp only
    split <;> rfl
@[simp] theorem State.changeSource_counters (s : State) (i : SourceIx) (f : Source → Source) :
    (s.changeSource i f).counters = s.counters := by
  unfold State.changeSource
  split
  · rfl
  · dsimp only
    split <;> rfl
@[simp] theorem State.changeSource_straps (s : State) (i : SourceIx) (f : Source → Source) :
    (s.changeSource i f).straps = s.straps := by
  unfold State.changeSource
  split
  · rfl
  · dsimp only
    split <;> rfl
@[simp] theorem State.changeSource_promotion (s : State) (i : SourceIx) (f : Source → Source) :
    (s.changeSource i f).promotion = s.promotion := by
  unfold State.changeSource
  split
  · rfl
  · dsimp only
    split <;> rfl
@[simp] theorem State.changeSource_grantNumber (s : State) (i : SourceIx) (f : Source → Source) :
    (s.changeSource i f).grantNumber = s.grantNumber := by
  unfold State.changeSource
  split
  · rfl
  · dsimp only
    split <;> rfl
@[simp] theorem State.changeSource_nodes (s : State) (i : SourceIx) (f : Source → Source) :
    (s.changeSource i f).nodes = s.nodes := by
  unfold State.changeSource
  split
  · rfl
  · dsimp only
    split <;> rfl
@[simp] theorem State.changeSource_node (s : State) (i : SourceIx) (f : Source → Source) (x : NodeId) :
    (s.changeSource i f).node x = s.node x := by simp only [State.node, State.changeSource_nodes]
@[simp] theorem State.changeSource_waitList (s : State) (i : SourceIx) (f : Source → Source) :
    (s.changeSource i f).waitList = s.waitList := by
  unfold State.changeSource
  split
  · rfl
  · dsimp only
    split <;> rfl
@[simp] theorem State.changeSource_slots (s : State) (i : SourceIx) (f : Source → Source) :
    (s.changeSource i f).slots = s.slots := by
  unfold State.changeSource
  split
  · rfl
  · dsimp only
    split <;> rfl
@[simp] theorem State.changeSource_contacts (s : State) (i : SourceIx) (f : Source → Source) :
    (s.changeSource i f).contacts = s.contacts := by
  unfold State.changeSource
  split
  · rfl
  · dsimp only
    split <;> rfl
@[simp] theorem State.changeSource_trunk (s : State) (i : SourceIx) (f : Source → Source) :
    (s.changeSource i f).trunk = s.trunk := by
  unfold State.changeSource
  split
  · rfl
  · dsimp only
    split <;> rfl
@[simp] theorem State.changeSource_field (s : State) (i : SourceIx) (f : Source → Source) :
    (s.changeSource i f).field = s.field := by
  unfold State.changeSource
  split
  · rfl
  · dsimp only
    split <;> rfl
@[simp] theorem State.changeSource_pins (s : State) (i : SourceIx) (f : Source → Source) :
    (s.changeSource i f).pins = s.pins := by
  unfold State.changeSource
  split
  · rfl
  · dsimp only
    split <;> rfl

/-! ### nodeTransition -/

@[simp] theorem State.nodeTransition_pending (s : State) (n : NodeId) (c : Channel) (t : Transition) :
    (s.nodeTransition n c t).pending = s.pending := by
  unfold State.nodeTransition
  split <;> simp
@[simp] theorem State.nodeTransition_mode (s : State) (n : NodeId) (c : Channel) (t : Transition) :
    (s.nodeTransition n c t).mode = s.mode := by
  unfold State.nodeTransition
  split <;> simp
@[simp] theorem State.nodeTransition_retained (s : State) (n : NodeId) (c : Channel) (t : Transition) :
    (s.nodeTransition n c t).retained = s.retained := by
  unfold State.nodeTransition
  split <;> simp
@[simp] theorem State.nodeTransition_role (s : State) (n : NodeId) (c : Channel) (t : Transition) :
    (s.nodeTransition n c t).role = s.role := by
  unfold State.nodeTransition
  split <;> simp
@[simp] theorem State.nodeTransition_resyncWait (s : State) (n : NodeId) (c : Channel) (t : Transition) :
    (s.nodeTransition n c t).resyncWait = s.resyncWait := by
  unfold State.nodeTransition
  split <;> simp
@[simp] theorem State.nodeTransition_resyncTries (s : State) (n : NodeId) (c : Channel) (t : Transition) :
    (s.nodeTransition n c t).resyncTries = s.resyncTries := by
  unfold State.nodeTransition
  split <;> simp
@[simp] theorem State.nodeTransition_counters (s : State) (n : NodeId) (c : Channel) (t : Transition) :
    (s.nodeTransition n c t).counters = s.counters := by
  unfold State.nodeTransition
  split <;> simp
@[simp] theorem State.nodeTransition_straps (s : State) (n : NodeId) (c : Channel) (t : Transition) :
    (s.nodeTransition n c t).straps = s.straps := by
  unfold State.nodeTransition
  split <;> simp
@[simp] theorem State.nodeTransition_promotion (s : State) (n : NodeId) (c : Channel) (t : Transition) :
    (s.nodeTransition n c t).promotion = s.promotion := by
  unfold State.nodeTransition
  split <;> simp
@[simp] theorem State.nodeTransition_grantNumber (s : State) (n : NodeId) (c : Channel) (t : Transition) :
    (s.nodeTransition n c t).grantNumber = s.grantNumber := by
  unfold State.nodeTransition
  split <;> simp
@[simp] theorem State.nodeTransition_waitList (s : State) (n : NodeId) (c : Channel) (t : Transition) :
    (s.nodeTransition n c t).waitList = s.waitList := by
  unfold State.nodeTransition
  split <;> simp
@[simp] theorem State.nodeTransition_slots (s : State) (n : NodeId) (c : Channel) (t : Transition) :
    (s.nodeTransition n c t).slots = s.slots := by
  unfold State.nodeTransition
  split <;> simp
@[simp] theorem State.nodeTransition_contacts (s : State) (n : NodeId) (c : Channel) (t : Transition) :
    (s.nodeTransition n c t).contacts = s.contacts := by
  unfold State.nodeTransition
  split <;> simp
@[simp] theorem State.nodeTransition_trunk (s : State) (n : NodeId) (c : Channel) (t : Transition) :
    (s.nodeTransition n c t).trunk = s.trunk := by
  unfold State.nodeTransition
  split <;> simp
@[simp] theorem State.nodeTransition_field (s : State) (n : NodeId) (c : Channel) (t : Transition) :
    (s.nodeTransition n c t).field = s.field := by
  unfold State.nodeTransition
  split <;> simp
@[simp] theorem State.nodeTransition_pins (s : State) (n : NodeId) (c : Channel) (t : Transition) :
    (s.nodeTransition n c t).pins = s.pins := by
  unfold State.nodeTransition
  split <;> simp

/-! ### nodeLevel -/

@[simp] theorem State.nodeLevel_pending (s : State) (n : NodeId) (level : Channel → Bool) (c : Channel) :
    (State.nodeLevel n level s c).pending = s.pending := by
  unfold State.nodeLevel
  split <;> simp
@[simp] theorem State.nodeLevel_mode (s : State) (n : NodeId) (level : Channel → Bool) (c : Channel) :
    (State.nodeLevel n level s c).mode = s.mode := by
  unfold State.nodeLevel
  split <;> simp
@[simp] theorem State.nodeLevel_retained (s : State) (n : NodeId) (level : Channel → Bool) (c : Channel) :
    (State.nodeLevel n level s c).retained = s.retained := by
  unfold State.nodeLevel
  split <;> simp
@[simp] theorem State.nodeLevel_role (s : State) (n : NodeId) (level : Channel → Bool) (c : Channel) :
    (State.nodeLevel n level s c).role = s.role := by
  unfold State.nodeLevel
  split <;> simp
@[simp] theorem State.nodeLevel_resyncWait (s : State) (n : NodeId) (level : Channel → Bool) (c : Channel) :
    (State.nodeLevel n level s c).resyncWait = s.resyncWait := by
  unfold State.nodeLevel
  split <;> simp
@[simp] theorem State.nodeLevel_resyncTries (s : State) (n : NodeId) (level : Channel → Bool) (c : Channel) :
    (State.nodeLevel n level s c).resyncTries = s.resyncTries := by
  unfold State.nodeLevel
  split <;> simp
@[simp] theorem State.nodeLevel_counters (s : State) (n : NodeId) (level : Channel → Bool) (c : Channel) :
    (State.nodeLevel n level s c).counters = s.counters := by
  unfold State.nodeLevel
  split <;> simp
@[simp] theorem State.nodeLevel_straps (s : State) (n : NodeId) (level : Channel → Bool) (c : Channel) :
    (State.nodeLevel n level s c).straps = s.straps := by
  unfold State.nodeLevel
  split <;> simp
@[simp] theorem State.nodeLevel_promotion (s : State) (n : NodeId) (level : Channel → Bool) (c : Channel) :
    (State.nodeLevel n level s c).promotion = s.promotion := by
  unfold State.nodeLevel
  split <;> simp
@[simp] theorem State.nodeLevel_grantNumber (s : State) (n : NodeId) (level : Channel → Bool) (c : Channel) :
    (State.nodeLevel n level s c).grantNumber = s.grantNumber := by
  unfold State.nodeLevel
  split <;> simp
@[simp] theorem State.nodeLevel_nodes (s : State) (n : NodeId) (level : Channel → Bool) (c : Channel) :
    (State.nodeLevel n level s c).nodes = s.nodes := by
  unfold State.nodeLevel
  split <;> simp
@[simp] theorem State.nodeLevel_node (s : State) (n : NodeId) (level : Channel → Bool) (c : Channel) (x : NodeId) :
    (State.nodeLevel n level s c).node x = s.node x := by simp only [State.node, State.nodeLevel_nodes]
@[simp] theorem State.nodeLevel_waitList (s : State) (n : NodeId) (level : Channel → Bool) (c : Channel) :
    (State.nodeLevel n level s c).waitList = s.waitList := by
  unfold State.nodeLevel
  split <;> simp
@[simp] theorem State.nodeLevel_slots (s : State) (n : NodeId) (level : Channel → Bool) (c : Channel) :
    (State.nodeLevel n level s c).slots = s.slots := by
  unfold State.nodeLevel
  split <;> simp
@[simp] theorem State.nodeLevel_contacts (s : State) (n : NodeId) (level : Channel → Bool) (c : Channel) :
    (State.nodeLevel n level s c).contacts = s.contacts := by
  unfold State.nodeLevel
  split <;> simp
@[simp] theorem State.nodeLevel_trunk (s : State) (n : NodeId) (level : Channel → Bool) (c : Channel) :
    (State.nodeLevel n level s c).trunk = s.trunk := by
  unfold State.nodeLevel
  split <;> simp
@[simp] theorem State.nodeLevel_field (s : State) (n : NodeId) (level : Channel → Bool) (c : Channel) :
    (State.nodeLevel n level s c).field = s.field := by
  unfold State.nodeLevel
  split <;> simp
@[simp] theorem State.nodeLevel_pins (s : State) (n : NodeId) (level : Channel → Bool) (c : Channel) :
    (State.nodeLevel n level s c).pins = s.pins := by
  unfold State.nodeLevel
  split <;> simp

/-! ### nodeLevels -/

@[simp] theorem State.nodeLevels_pending (s : State) (n : NodeId) (level : Channel → Bool) :
    (s.nodeLevels n level).pending = s.pending :=
  foldl_keeps (fun u : State => u.pending) _ (fun u c => u.nodeLevel_pending n level c) _ s
@[simp] theorem State.nodeLevels_mode (s : State) (n : NodeId) (level : Channel → Bool) :
    (s.nodeLevels n level).mode = s.mode :=
  foldl_keeps (fun u : State => u.mode) _ (fun u c => u.nodeLevel_mode n level c) _ s
@[simp] theorem State.nodeLevels_retained (s : State) (n : NodeId) (level : Channel → Bool) :
    (s.nodeLevels n level).retained = s.retained :=
  foldl_keeps (fun u : State => u.retained) _ (fun u c => u.nodeLevel_retained n level c) _ s
@[simp] theorem State.nodeLevels_role (s : State) (n : NodeId) (level : Channel → Bool) :
    (s.nodeLevels n level).role = s.role :=
  foldl_keeps (fun u : State => u.role) _ (fun u c => u.nodeLevel_role n level c) _ s
@[simp] theorem State.nodeLevels_resyncWait (s : State) (n : NodeId) (level : Channel → Bool) :
    (s.nodeLevels n level).resyncWait = s.resyncWait :=
  foldl_keeps (fun u : State => u.resyncWait) _ (fun u c => u.nodeLevel_resyncWait n level c) _ s
@[simp] theorem State.nodeLevels_resyncTries (s : State) (n : NodeId) (level : Channel → Bool) :
    (s.nodeLevels n level).resyncTries = s.resyncTries :=
  foldl_keeps (fun u : State => u.resyncTries) _ (fun u c => u.nodeLevel_resyncTries n level c) _ s
@[simp] theorem State.nodeLevels_counters (s : State) (n : NodeId) (level : Channel → Bool) :
    (s.nodeLevels n level).counters = s.counters :=
  foldl_keeps (fun u : State => u.counters) _ (fun u c => u.nodeLevel_counters n level c) _ s
@[simp] theorem State.nodeLevels_straps (s : State) (n : NodeId) (level : Channel → Bool) :
    (s.nodeLevels n level).straps = s.straps :=
  foldl_keeps (fun u : State => u.straps) _ (fun u c => u.nodeLevel_straps n level c) _ s
@[simp] theorem State.nodeLevels_promotion (s : State) (n : NodeId) (level : Channel → Bool) :
    (s.nodeLevels n level).promotion = s.promotion :=
  foldl_keeps (fun u : State => u.promotion) _ (fun u c => u.nodeLevel_promotion n level c) _ s
@[simp] theorem State.nodeLevels_grantNumber (s : State) (n : NodeId) (level : Channel → Bool) :
    (s.nodeLevels n level).grantNumber = s.grantNumber :=
  foldl_keeps (fun u : State => u.grantNumber) _ (fun u c => u.nodeLevel_grantNumber n level c) _ s
@[simp] theorem State.nodeLevels_nodes (s : State) (n : NodeId) (level : Channel → Bool) :
    (s.nodeLevels n level).nodes = s.nodes :=
  foldl_keeps (fun u : State => u.nodes) _ (fun u c => u.nodeLevel_nodes n level c) _ s
@[simp] theorem State.nodeLevels_node (s : State) (n : NodeId) (level : Channel → Bool) (x : NodeId) :
    (s.nodeLevels n level).node x = s.node x := by simp only [State.node, State.nodeLevels_nodes]
@[simp] theorem State.nodeLevels_waitList (s : State) (n : NodeId) (level : Channel → Bool) :
    (s.nodeLevels n level).waitList = s.waitList :=
  foldl_keeps (fun u : State => u.waitList) _ (fun u c => u.nodeLevel_waitList n level c) _ s
@[simp] theorem State.nodeLevels_slots (s : State) (n : NodeId) (level : Channel → Bool) :
    (s.nodeLevels n level).slots = s.slots :=
  foldl_keeps (fun u : State => u.slots) _ (fun u c => u.nodeLevel_slots n level c) _ s
@[simp] theorem State.nodeLevels_contacts (s : State) (n : NodeId) (level : Channel → Bool) :
    (s.nodeLevels n level).contacts = s.contacts :=
  foldl_keeps (fun u : State => u.contacts) _ (fun u c => u.nodeLevel_contacts n level c) _ s
@[simp] theorem State.nodeLevels_trunk (s : State) (n : NodeId) (level : Channel → Bool) :
    (s.nodeLevels n level).trunk = s.trunk :=
  foldl_keeps (fun u : State => u.trunk) _ (fun u c => u.nodeLevel_trunk n level c) _ s
@[simp] theorem State.nodeLevels_field (s : State) (n : NodeId) (level : Channel → Bool) :
    (s.nodeLevels n level).field = s.field :=
  foldl_keeps (fun u : State => u.field) _ (fun u c => u.nodeLevel_field n level c) _ s
@[simp] theorem State.nodeLevels_pins (s : State) (n : NodeId) (level : Channel → Bool) :
    (s.nodeLevels n level).pins = s.pins :=
  foldl_keeps (fun u : State => u.pins) _ (fun u c => u.nodeLevel_pins n level c) _ s

/-! ### reclaim -/

@[simp] theorem State.reclaim_pending (s : State) (k : AgentId) (c : Claim) : (s.reclaim k c).pending = s.pending :=
  by simp [State.reclaim]
@[simp] theorem State.reclaim_mode (s : State) (k : AgentId) (c : Claim) : (s.reclaim k c).mode = s.mode :=
  by simp [State.reclaim]
@[simp] theorem State.reclaim_retained (s : State) (k : AgentId) (c : Claim) :
    (s.reclaim k c).retained = s.retained := by simp [State.reclaim]
@[simp] theorem State.reclaim_role (s : State) (k : AgentId) (c : Claim) : (s.reclaim k c).role = s.role :=
  by simp [State.reclaim]
@[simp] theorem State.reclaim_resyncWait (s : State) (k : AgentId) (c : Claim) :
    (s.reclaim k c).resyncWait = s.resyncWait := by simp [State.reclaim]
@[simp] theorem State.reclaim_resyncTries (s : State) (k : AgentId) (c : Claim) :
    (s.reclaim k c).resyncTries = s.resyncTries := by simp [State.reclaim]
@[simp] theorem State.reclaim_counters (s : State) (k : AgentId) (c : Claim) :
    (s.reclaim k c).counters = s.counters := by simp [State.reclaim]
@[simp] theorem State.reclaim_straps (s : State) (k : AgentId) (c : Claim) : (s.reclaim k c).straps = s.straps :=
  by simp [State.reclaim]
@[simp] theorem State.reclaim_promotion (s : State) (k : AgentId) (c : Claim) :
    (s.reclaim k c).promotion = s.promotion := by simp [State.reclaim]
@[simp] theorem State.reclaim_grantNumber (s : State) (k : AgentId) (c : Claim) :
    (s.reclaim k c).grantNumber = s.grantNumber := by simp [State.reclaim]
@[simp] theorem State.reclaim_nodes (s : State) (k : AgentId) (c : Claim) : (s.reclaim k c).nodes = s.nodes :=
  by simp [State.reclaim]
@[simp] theorem State.reclaim_node (s : State) (k : AgentId) (c : Claim) (x : NodeId) :
    (s.reclaim k c).node x = s.node x := by simp only [State.node, State.reclaim_nodes]
@[simp] theorem State.reclaim_waitList (s : State) (k : AgentId) (c : Claim) :
    (s.reclaim k c).waitList = s.waitList := by simp [State.reclaim]
@[simp] theorem State.reclaim_slots (s : State) (k : AgentId) (c : Claim) : (s.reclaim k c).slots = s.slots :=
  by simp [State.reclaim]
@[simp] theorem State.reclaim_contacts (s : State) (k : AgentId) (c : Claim) :
    (s.reclaim k c).contacts = s.contacts := by simp [State.reclaim]
@[simp] theorem State.reclaim_trunk (s : State) (k : AgentId) (c : Claim) : (s.reclaim k c).trunk = s.trunk :=
  by simp [State.reclaim]
@[simp] theorem State.reclaim_field (s : State) (k : AgentId) (c : Claim) : (s.reclaim k c).field = s.field :=
  by simp [State.reclaim]
@[simp] theorem State.reclaim_pins (s : State) (k : AgentId) (c : Claim) : (s.reclaim k c).pins = s.pins :=
  by simp [State.reclaim]

/-! ### grant -/

@[simp] theorem State.grant_pending (s : State) (k : AgentId) (i : SourceIx) (a : Source) :
    (s.grant k i a).pending = s.pending := by simp [State.grant]
@[simp] theorem State.grant_mode (s : State) (k : AgentId) (i : SourceIx) (a : Source) :
    (s.grant k i a).mode = s.mode := by simp [State.grant]
@[simp] theorem State.grant_retained (s : State) (k : AgentId) (i : SourceIx) (a : Source) :
    (s.grant k i a).retained = s.retained := by simp [State.grant]
@[simp] theorem State.grant_role (s : State) (k : AgentId) (i : SourceIx) (a : Source) :
    (s.grant k i a).role = s.role := by simp [State.grant]
@[simp] theorem State.grant_resyncWait (s : State) (k : AgentId) (i : SourceIx) (a : Source) :
    (s.grant k i a).resyncWait = s.resyncWait := by simp [State.grant]
@[simp] theorem State.grant_resyncTries (s : State) (k : AgentId) (i : SourceIx) (a : Source) :
    (s.grant k i a).resyncTries = s.resyncTries := by simp [State.grant]
@[simp] theorem State.grant_counters (s : State) (k : AgentId) (i : SourceIx) (a : Source) :
    (s.grant k i a).counters = s.counters := by simp [State.grant]
@[simp] theorem State.grant_straps (s : State) (k : AgentId) (i : SourceIx) (a : Source) :
    (s.grant k i a).straps = s.straps := by simp [State.grant]
@[simp] theorem State.grant_promotion (s : State) (k : AgentId) (i : SourceIx) (a : Source) :
    (s.grant k i a).promotion = s.promotion := by simp [State.grant]
@[simp] theorem State.grant_nodes (s : State) (k : AgentId) (i : SourceIx) (a : Source) :
    (s.grant k i a).nodes = s.nodes := by simp [State.grant]
@[simp] theorem State.grant_node (s : State) (k : AgentId) (i : SourceIx) (a : Source) (x : NodeId) :
    (s.grant k i a).node x = s.node x := by simp only [State.node, State.grant_nodes]
@[simp] theorem State.grant_waitList (s : State) (k : AgentId) (i : SourceIx) (a : Source) :
    (s.grant k i a).waitList = s.waitList := by simp [State.grant]
@[simp] theorem State.grant_slots (s : State) (k : AgentId) (i : SourceIx) (a : Source) :
    (s.grant k i a).slots = s.slots := by simp [State.grant]
@[simp] theorem State.grant_contacts (s : State) (k : AgentId) (i : SourceIx) (a : Source) :
    (s.grant k i a).contacts = s.contacts := by simp [State.grant]
@[simp] theorem State.grant_trunk (s : State) (k : AgentId) (i : SourceIx) (a : Source) :
    (s.grant k i a).trunk = s.trunk := by simp [State.grant]
@[simp] theorem State.grant_field (s : State) (k : AgentId) (i : SourceIx) (a : Source) :
    (s.grant k i a).field = s.field := by simp [State.grant]
@[simp] theorem State.grant_pins (s : State) (k : AgentId) (i : SourceIx) (a : Source) :
    (s.grant k i a).pins = s.pins := by simp [State.grant]

/-! ### endSession -/

@[simp] theorem State.endSession_pending (s : State) (k : AgentId) : (s.endSession k).pending = s.pending := by
  have h := foldl_keeps (fun u : State => u.pending) _ (fun u c => u.reclaim_pending k c) (s.agent k).claims s
  unfold State.endSession
  dsimp only at h ⊢
  split <;> simp [h]
@[simp] theorem State.endSession_mode (s : State) (k : AgentId) : (s.endSession k).mode = s.mode := by
  have h := foldl_keeps (fun u : State => u.mode) _ (fun u c => u.reclaim_mode k c) (s.agent k).claims s
  unfold State.endSession
  dsimp only at h ⊢
  split <;> simp [h]
@[simp] theorem State.endSession_retained (s : State) (k : AgentId) : (s.endSession k).retained = s.retained := by
  have h := foldl_keeps (fun u : State => u.retained) _ (fun u c => u.reclaim_retained k c) (s.agent k).claims s
  unfold State.endSession
  dsimp only at h ⊢
  split <;> simp [h]
@[simp] theorem State.endSession_resyncWait (s : State) (k : AgentId) : (s.endSession k).resyncWait = s.resyncWait :=
  by
  have h := foldl_keeps (fun u : State => u.resyncWait) _ (fun u c => u.reclaim_resyncWait k c) (s.agent k).claims s
  unfold State.endSession
  dsimp only at h ⊢
  split <;> simp [h]
@[simp] theorem State.endSession_resyncTries (s : State) (k : AgentId) :
    (s.endSession k).resyncTries = s.resyncTries := by
  have h := foldl_keeps (fun u : State => u.resyncTries) _ (fun u c => u.reclaim_resyncTries k c) (s.agent k).claims s
  unfold State.endSession
  dsimp only at h ⊢
  split <;> simp [h]
@[simp] theorem State.endSession_counters (s : State) (k : AgentId) : (s.endSession k).counters = s.counters := by
  have h := foldl_keeps (fun u : State => u.counters) _ (fun u c => u.reclaim_counters k c) (s.agent k).claims s
  unfold State.endSession
  dsimp only at h ⊢
  split <;> simp [h]
@[simp] theorem State.endSession_straps (s : State) (k : AgentId) : (s.endSession k).straps = s.straps := by
  have h := foldl_keeps (fun u : State => u.straps) _ (fun u c => u.reclaim_straps k c) (s.agent k).claims s
  unfold State.endSession
  dsimp only at h ⊢
  split <;> simp [h]
@[simp] theorem State.endSession_promotion (s : State) (k : AgentId) : (s.endSession k).promotion = s.promotion := by
  have h := foldl_keeps (fun u : State => u.promotion) _ (fun u c => u.reclaim_promotion k c) (s.agent k).claims s
  unfold State.endSession
  dsimp only at h ⊢
  split <;> simp [h]
@[simp] theorem State.endSession_grantNumber (s : State) (k : AgentId) :
    (s.endSession k).grantNumber = s.grantNumber := by
  have h := foldl_keeps (fun u : State => u.grantNumber) _ (fun u c => u.reclaim_grantNumber k c) (s.agent k).claims s
  unfold State.endSession
  dsimp only at h ⊢
  split <;> simp [h]
@[simp] theorem State.endSession_nodes (s : State) (k : AgentId) : (s.endSession k).nodes = s.nodes := by
  have h := foldl_keeps (fun u : State => u.nodes) _ (fun u c => u.reclaim_nodes k c) (s.agent k).claims s
  unfold State.endSession
  dsimp only at h ⊢
  split <;> simp [h]
@[simp] theorem State.endSession_node (s : State) (k : AgentId) (x : NodeId) :
    (s.endSession k).node x = s.node x := by simp only [State.node, State.endSession_nodes]
@[simp] theorem State.endSession_waitList (s : State) (k : AgentId) : (s.endSession k).waitList = s.waitList := by
  have h := foldl_keeps (fun u : State => u.waitList) _ (fun u c => u.reclaim_waitList k c) (s.agent k).claims s
  unfold State.endSession
  dsimp only at h ⊢
  split <;> simp [h]
@[simp] theorem State.endSession_slots (s : State) (k : AgentId) : (s.endSession k).slots = s.slots := by
  have h := foldl_keeps (fun u : State => u.slots) _ (fun u c => u.reclaim_slots k c) (s.agent k).claims s
  unfold State.endSession
  dsimp only at h ⊢
  split <;> simp [h]
@[simp] theorem State.endSession_contacts (s : State) (k : AgentId) : (s.endSession k).contacts = s.contacts := by
  have h := foldl_keeps (fun u : State => u.contacts) _ (fun u c => u.reclaim_contacts k c) (s.agent k).claims s
  unfold State.endSession
  dsimp only at h ⊢
  split <;> simp [h]
@[simp] theorem State.endSession_trunk (s : State) (k : AgentId) : (s.endSession k).trunk = s.trunk := by
  have h := foldl_keeps (fun u : State => u.trunk) _ (fun u c => u.reclaim_trunk k c) (s.agent k).claims s
  unfold State.endSession
  dsimp only at h ⊢
  split <;> simp [h]
@[simp] theorem State.endSession_field (s : State) (k : AgentId) : (s.endSession k).field = s.field := by
  have h := foldl_keeps (fun u : State => u.field) _ (fun u c => u.reclaim_field k c) (s.agent k).claims s
  unfold State.endSession
  dsimp only at h ⊢
  split <;> simp [h]
@[simp] theorem State.endSession_pins (s : State) (k : AgentId) : (s.endSession k).pins = s.pins := by
  have h := foldl_keeps (fun u : State => u.pins) _ (fun u c => u.reclaim_pins k c) (s.agent k).claims s
  unfold State.endSession
  dsimp only at h ⊢
  split <;> simp [h]

/-! ### endIfAttached -/

@[simp] theorem State.endIfAttached_pending (s : State) (k : AgentId) : (s.endIfAttached k).pending = s.pending := by
  unfold State.endIfAttached
  split <;> simp
@[simp] theorem State.endIfAttached_mode (s : State) (k : AgentId) : (s.endIfAttached k).mode = s.mode := by
  unfold State.endIfAttached
  split <;> simp
@[simp] theorem State.endIfAttached_retained (s : State) (k : AgentId) : (s.endIfAttached k).retained = s.retained :=
  by
  unfold State.endIfAttached
  split <;> simp
@[simp] theorem State.endIfAttached_resyncWait (s : State) (k : AgentId) :
    (s.endIfAttached k).resyncWait = s.resyncWait := by
  unfold State.endIfAttached
  split <;> simp
@[simp] theorem State.endIfAttached_resyncTries (s : State) (k : AgentId) :
    (s.endIfAttached k).resyncTries = s.resyncTries := by
  unfold State.endIfAttached
  split <;> simp
@[simp] theorem State.endIfAttached_counters (s : State) (k : AgentId) : (s.endIfAttached k).counters = s.counters :=
  by
  unfold State.endIfAttached
  split <;> simp
@[simp] theorem State.endIfAttached_straps (s : State) (k : AgentId) : (s.endIfAttached k).straps = s.straps := by
  unfold State.endIfAttached
  split <;> simp
@[simp] theorem State.endIfAttached_promotion (s : State) (k : AgentId) :
    (s.endIfAttached k).promotion = s.promotion := by
  unfold State.endIfAttached
  split <;> simp
@[simp] theorem State.endIfAttached_grantNumber (s : State) (k : AgentId) :
    (s.endIfAttached k).grantNumber = s.grantNumber := by
  unfold State.endIfAttached
  split <;> simp
@[simp] theorem State.endIfAttached_nodes (s : State) (k : AgentId) : (s.endIfAttached k).nodes = s.nodes := by
  unfold State.endIfAttached
  split <;> simp
@[simp] theorem State.endIfAttached_node (s : State) (k : AgentId) (x : NodeId) :
    (s.endIfAttached k).node x = s.node x := by simp only [State.node, State.endIfAttached_nodes]
@[simp] theorem State.endIfAttached_waitList (s : State) (k : AgentId) : (s.endIfAttached k).waitList = s.waitList :=
  by
  unfold State.endIfAttached
  split <;> simp
@[simp] theorem State.endIfAttached_slots (s : State) (k : AgentId) : (s.endIfAttached k).slots = s.slots := by
  unfold State.endIfAttached
  split <;> simp
@[simp] theorem State.endIfAttached_contacts (s : State) (k : AgentId) : (s.endIfAttached k).contacts = s.contacts :=
  by
  unfold State.endIfAttached
  split <;> simp
@[simp] theorem State.endIfAttached_trunk (s : State) (k : AgentId) : (s.endIfAttached k).trunk = s.trunk := by
  unfold State.endIfAttached
  split <;> simp
@[simp] theorem State.endIfAttached_field (s : State) (k : AgentId) : (s.endIfAttached k).field = s.field := by
  unfold State.endIfAttached
  split <;> simp
@[simp] theorem State.endIfAttached_pins (s : State) (k : AgentId) : (s.endIfAttached k).pins = s.pins := by
  unfold State.endIfAttached
  split <;> simp

/-! ### endSessions -/

@[simp] theorem State.endSessions_pending (s : State) : (s.endSessions).pending = s.pending :=
  foldl_keeps (fun u : State => u.pending) _ (fun u k => u.endIfAttached_pending k) _ s
@[simp] theorem State.endSessions_mode (s : State) : (s.endSessions).mode = s.mode :=
  foldl_keeps (fun u : State => u.mode) _ (fun u k => u.endIfAttached_mode k) _ s
@[simp] theorem State.endSessions_retained (s : State) : (s.endSessions).retained = s.retained :=
  foldl_keeps (fun u : State => u.retained) _ (fun u k => u.endIfAttached_retained k) _ s
@[simp] theorem State.endSessions_resyncWait (s : State) : (s.endSessions).resyncWait = s.resyncWait :=
  foldl_keeps (fun u : State => u.resyncWait) _ (fun u k => u.endIfAttached_resyncWait k) _ s
@[simp] theorem State.endSessions_resyncTries (s : State) : (s.endSessions).resyncTries = s.resyncTries :=
  foldl_keeps (fun u : State => u.resyncTries) _ (fun u k => u.endIfAttached_resyncTries k) _ s
@[simp] theorem State.endSessions_counters (s : State) : (s.endSessions).counters = s.counters :=
  foldl_keeps (fun u : State => u.counters) _ (fun u k => u.endIfAttached_counters k) _ s
@[simp] theorem State.endSessions_straps (s : State) : (s.endSessions).straps = s.straps :=
  foldl_keeps (fun u : State => u.straps) _ (fun u k => u.endIfAttached_straps k) _ s
@[simp] theorem State.endSessions_promotion (s : State) : (s.endSessions).promotion = s.promotion :=
  foldl_keeps (fun u : State => u.promotion) _ (fun u k => u.endIfAttached_promotion k) _ s
@[simp] theorem State.endSessions_grantNumber (s : State) : (s.endSessions).grantNumber = s.grantNumber :=
  foldl_keeps (fun u : State => u.grantNumber) _ (fun u k => u.endIfAttached_grantNumber k) _ s
@[simp] theorem State.endSessions_nodes (s : State) : (s.endSessions).nodes = s.nodes :=
  foldl_keeps (fun u : State => u.nodes) _ (fun u k => u.endIfAttached_nodes k) _ s
@[simp] theorem State.endSessions_node (s : State) (x : NodeId) :
    (s.endSessions).node x = s.node x := by simp only [State.node, State.endSessions_nodes]
@[simp] theorem State.endSessions_waitList (s : State) : (s.endSessions).waitList = s.waitList :=
  foldl_keeps (fun u : State => u.waitList) _ (fun u k => u.endIfAttached_waitList k) _ s
@[simp] theorem State.endSessions_slots (s : State) : (s.endSessions).slots = s.slots :=
  foldl_keeps (fun u : State => u.slots) _ (fun u k => u.endIfAttached_slots k) _ s
@[simp] theorem State.endSessions_contacts (s : State) : (s.endSessions).contacts = s.contacts :=
  foldl_keeps (fun u : State => u.contacts) _ (fun u k => u.endIfAttached_contacts k) _ s
@[simp] theorem State.endSessions_trunk (s : State) : (s.endSessions).trunk = s.trunk :=
  foldl_keeps (fun u : State => u.trunk) _ (fun u k => u.endIfAttached_trunk k) _ s
@[simp] theorem State.endSessions_field (s : State) : (s.endSessions).field = s.field :=
  foldl_keeps (fun u : State => u.field) _ (fun u k => u.endIfAttached_field k) _ s
@[simp] theorem State.endSessions_pins (s : State) : (s.endSessions).pins = s.pins :=
  foldl_keeps (fun u : State => u.pins) _ (fun u k => u.endIfAttached_pins k) _ s

/-! ### slotTakes -/

@[simp] theorem State.slotTakes_pending (s : State) (j : SlotId) : (s.slotTakes j).pending = s.pending := by
  unfold State.slotTakes
  split <;> simp
@[simp] theorem State.slotTakes_mode (s : State) (j : SlotId) : (s.slotTakes j).mode = s.mode := by
  unfold State.slotTakes
  split <;> simp
@[simp] theorem State.slotTakes_retained (s : State) (j : SlotId) : (s.slotTakes j).retained = s.retained := by
  unfold State.slotTakes
  split <;> simp
@[simp] theorem State.slotTakes_role (s : State) (j : SlotId) : (s.slotTakes j).role = s.role := by
  unfold State.slotTakes
  split <;> simp
@[simp] theorem State.slotTakes_resyncWait (s : State) (j : SlotId) : (s.slotTakes j).resyncWait = s.resyncWait := by
  unfold State.slotTakes
  split <;> simp
@[simp] theorem State.slotTakes_resyncTries (s : State) (j : SlotId) : (s.slotTakes j).resyncTries = s.resyncTries :=
  by
  unfold State.slotTakes
  split <;> simp
@[simp] theorem State.slotTakes_counters (s : State) (j : SlotId) : (s.slotTakes j).counters = s.counters := by
  unfold State.slotTakes
  split <;> simp
@[simp] theorem State.slotTakes_straps (s : State) (j : SlotId) : (s.slotTakes j).straps = s.straps := by
  unfold State.slotTakes
  split <;> simp
@[simp] theorem State.slotTakes_sources (s : State) (j : SlotId) : (s.slotTakes j).sources = s.sources := by
  unfold State.slotTakes
  split <;> simp
@[simp] theorem State.slotTakes_source (s : State) (j : SlotId) (x : SourceIx) :
    (s.slotTakes j).source x = s.source x := by simp only [State.source, State.slotTakes_sources]
@[simp] theorem State.slotTakes_promotion (s : State) (j : SlotId) : (s.slotTakes j).promotion = s.promotion := by
  unfold State.slotTakes
  split <;> simp
@[simp] theorem State.slotTakes_agents (s : State) (j : SlotId) : (s.slotTakes j).agents = s.agents := by
  unfold State.slotTakes
  split <;> simp
@[simp] theorem State.slotTakes_agent (s : State) (j : SlotId) (x : AgentId) :
    (s.slotTakes j).agent x = s.agent x := by simp only [State.agent, State.slotTakes_agents]
@[simp] theorem State.slotTakes_grantNumber (s : State) (j : SlotId) : (s.slotTakes j).grantNumber = s.grantNumber :=
  by
  unfold State.slotTakes
  split <;> simp
@[simp] theorem State.slotTakes_contacts (s : State) (j : SlotId) : (s.slotTakes j).contacts = s.contacts := by
  unfold State.slotTakes
  split <;> simp
@[simp] theorem State.slotTakes_trunk (s : State) (j : SlotId) : (s.slotTakes j).trunk = s.trunk := by
  unfold State.slotTakes
  split <;> simp
@[simp] theorem State.slotTakes_field (s : State) (j : SlotId) : (s.slotTakes j).field = s.field := by
  unfold State.slotTakes
  split <;> simp
@[simp] theorem State.slotTakes_pins (s : State) (j : SlotId) : (s.slotTakes j).pins = s.pins := by
  unfold State.slotTakes
  split <;> simp

/-! ### fillSlots -/

@[simp] theorem State.fillSlots_pending (s : State) : (s.fillSlots).pending = s.pending := by
  unfold State.fillSlots
  split
  · exact foldl_keeps (fun u : State => u.pending) _ (fun u j => u.slotTakes_pending j) _ s
  · rfl
@[simp] theorem State.fillSlots_mode (s : State) : (s.fillSlots).mode = s.mode := by
  unfold State.fillSlots
  split
  · exact foldl_keeps (fun u : State => u.mode) _ (fun u j => u.slotTakes_mode j) _ s
  · rfl
@[simp] theorem State.fillSlots_retained (s : State) : (s.fillSlots).retained = s.retained := by
  unfold State.fillSlots
  split
  · exact foldl_keeps (fun u : State => u.retained) _ (fun u j => u.slotTakes_retained j) _ s
  · rfl
@[simp] theorem State.fillSlots_role (s : State) : (s.fillSlots).role = s.role := by
  unfold State.fillSlots
  split
  · exact foldl_keeps (fun u : State => u.role) _ (fun u j => u.slotTakes_role j) _ s
  · rfl
@[simp] theorem State.fillSlots_resyncWait (s : State) : (s.fillSlots).resyncWait = s.resyncWait := by
  unfold State.fillSlots
  split
  · exact foldl_keeps (fun u : State => u.resyncWait) _ (fun u j => u.slotTakes_resyncWait j) _ s
  · rfl
@[simp] theorem State.fillSlots_resyncTries (s : State) : (s.fillSlots).resyncTries = s.resyncTries := by
  unfold State.fillSlots
  split
  · exact foldl_keeps (fun u : State => u.resyncTries) _ (fun u j => u.slotTakes_resyncTries j) _ s
  · rfl
@[simp] theorem State.fillSlots_counters (s : State) : (s.fillSlots).counters = s.counters := by
  unfold State.fillSlots
  split
  · exact foldl_keeps (fun u : State => u.counters) _ (fun u j => u.slotTakes_counters j) _ s
  · rfl
@[simp] theorem State.fillSlots_straps (s : State) : (s.fillSlots).straps = s.straps := by
  unfold State.fillSlots
  split
  · exact foldl_keeps (fun u : State => u.straps) _ (fun u j => u.slotTakes_straps j) _ s
  · rfl
@[simp] theorem State.fillSlots_sources (s : State) : (s.fillSlots).sources = s.sources := by
  unfold State.fillSlots
  split
  · exact foldl_keeps (fun u : State => u.sources) _ (fun u j => u.slotTakes_sources j) _ s
  · rfl
@[simp] theorem State.fillSlots_source (s : State) (x : SourceIx) :
    (s.fillSlots).source x = s.source x := by simp only [State.source, State.fillSlots_sources]
@[simp] theorem State.fillSlots_promotion (s : State) : (s.fillSlots).promotion = s.promotion := by
  unfold State.fillSlots
  split
  · exact foldl_keeps (fun u : State => u.promotion) _ (fun u j => u.slotTakes_promotion j) _ s
  · rfl
@[simp] theorem State.fillSlots_agents (s : State) : (s.fillSlots).agents = s.agents := by
  unfold State.fillSlots
  split
  · exact foldl_keeps (fun u : State => u.agents) _ (fun u j => u.slotTakes_agents j) _ s
  · rfl
@[simp] theorem State.fillSlots_agent (s : State) (x : AgentId) :
    (s.fillSlots).agent x = s.agent x := by simp only [State.agent, State.fillSlots_agents]
@[simp] theorem State.fillSlots_grantNumber (s : State) : (s.fillSlots).grantNumber = s.grantNumber := by
  unfold State.fillSlots
  split
  · exact foldl_keeps (fun u : State => u.grantNumber) _ (fun u j => u.slotTakes_grantNumber j) _ s
  · rfl
@[simp] theorem State.fillSlots_contacts (s : State) : (s.fillSlots).contacts = s.contacts := by
  unfold State.fillSlots
  split
  · exact foldl_keeps (fun u : State => u.contacts) _ (fun u j => u.slotTakes_contacts j) _ s
  · rfl
@[simp] theorem State.fillSlots_trunk (s : State) : (s.fillSlots).trunk = s.trunk := by
  unfold State.fillSlots
  split
  · exact foldl_keeps (fun u : State => u.trunk) _ (fun u j => u.slotTakes_trunk j) _ s
  · rfl
@[simp] theorem State.fillSlots_field (s : State) : (s.fillSlots).field = s.field := by
  unfold State.fillSlots
  split
  · exact foldl_keeps (fun u : State => u.field) _ (fun u j => u.slotTakes_field j) _ s
  · rfl
@[simp] theorem State.fillSlots_pins (s : State) : (s.fillSlots).pins = s.pins := by
  unfold State.fillSlots
  split
  · exact foldl_keeps (fun u : State => u.pins) _ (fun u j => u.slotTakes_pins j) _ s
  · rfl

/-! ### takeEvt -/

@[simp] theorem State.takeEvt_pending (s : State) (n : NodeId) (r : Node) (c : Channel) (t : Transition) (q : Byte) :
    (s.takeEvt n r c t q).pending = s.pending := by
  unfold State.takeEvt
  cases r.state <;> (try dsimp only) <;> (repeat' split) <;> simp
@[simp] theorem State.takeEvt_mode (s : State) (n : NodeId) (r : Node) (c : Channel) (t : Transition) (q : Byte) :
    (s.takeEvt n r c t q).mode = s.mode := by
  unfold State.takeEvt
  cases r.state <;> (try dsimp only) <;> (repeat' split) <;> simp
@[simp] theorem State.takeEvt_retained (s : State) (n : NodeId) (r : Node) (c : Channel) (t : Transition) (q : Byte) :
    (s.takeEvt n r c t q).retained = s.retained := by
  unfold State.takeEvt
  cases r.state <;> (try dsimp only) <;> (repeat' split) <;> simp
@[simp] theorem State.takeEvt_role (s : State) (n : NodeId) (r : Node) (c : Channel) (t : Transition) (q : Byte) :
    (s.takeEvt n r c t q).role = s.role := by
  unfold State.takeEvt
  cases r.state <;> (try dsimp only) <;> (repeat' split) <;> simp
@[simp] theorem State.takeEvt_resyncWait (s : State) (n : NodeId) (r : Node) (c : Channel) (t : Transition) (q : Byte) :
    (s.takeEvt n r c t q).resyncWait = s.resyncWait := by
  unfold State.takeEvt
  cases r.state <;> (try dsimp only) <;> (repeat' split) <;> simp
@[simp] theorem State.takeEvt_resyncTries (s : State) (n : NodeId) (r : Node) (c : Channel) (t : Transition) (q : Byte) :
    (s.takeEvt n r c t q).resyncTries = s.resyncTries := by
  unfold State.takeEvt
  cases r.state <;> (try dsimp only) <;> (repeat' split) <;> simp
@[simp] theorem State.takeEvt_counters (s : State) (n : NodeId) (r : Node) (c : Channel) (t : Transition) (q : Byte) :
    (s.takeEvt n r c t q).counters = s.counters := by
  unfold State.takeEvt
  cases r.state <;> (try dsimp only) <;> (repeat' split) <;> simp
@[simp] theorem State.takeEvt_straps (s : State) (n : NodeId) (r : Node) (c : Channel) (t : Transition) (q : Byte) :
    (s.takeEvt n r c t q).straps = s.straps := by
  unfold State.takeEvt
  cases r.state <;> (try dsimp only) <;> (repeat' split) <;> simp
@[simp] theorem State.takeEvt_promotion (s : State) (n : NodeId) (r : Node) (c : Channel) (t : Transition) (q : Byte) :
    (s.takeEvt n r c t q).promotion = s.promotion := by
  unfold State.takeEvt
  cases r.state <;> (try dsimp only) <;> (repeat' split) <;> simp
@[simp] theorem State.takeEvt_grantNumber (s : State) (n : NodeId) (r : Node) (c : Channel) (t : Transition) (q : Byte) :
    (s.takeEvt n r c t q).grantNumber = s.grantNumber := by
  unfold State.takeEvt
  cases r.state <;> (try dsimp only) <;> (repeat' split) <;> simp
@[simp] theorem State.takeEvt_contacts (s : State) (n : NodeId) (r : Node) (c : Channel) (t : Transition) (q : Byte) :
    (s.takeEvt n r c t q).contacts = s.contacts := by
  unfold State.takeEvt
  cases r.state <;> (try dsimp only) <;> (repeat' split) <;> simp
@[simp] theorem State.takeEvt_trunk (s : State) (n : NodeId) (r : Node) (c : Channel) (t : Transition) (q : Byte) :
    (s.takeEvt n r c t q).trunk = s.trunk := by
  unfold State.takeEvt
  cases r.state <;> (try dsimp only) <;> (repeat' split) <;> simp
@[simp] theorem State.takeEvt_field (s : State) (n : NodeId) (r : Node) (c : Channel) (t : Transition) (q : Byte) :
    (s.takeEvt n r c t q).field = s.field := by
  unfold State.takeEvt
  cases r.state <;> (try dsimp only) <;> (repeat' split) <;> simp
@[simp] theorem State.takeEvt_pins (s : State) (n : NodeId) (r : Node) (c : Channel) (t : Transition) (q : Byte) :
    (s.takeEvt n r c t q).pins = s.pins := by
  unfold State.takeEvt
  cases r.state <;> (try dsimp only) <;> (repeat' split) <;> simp

/-! ### takeState -/

@[simp] theorem State.takeState_pending (s : State) (n : NodeId) (r : Node) (levels : BitVec 16) (q : Byte) :
    (s.takeState n r levels q).pending = s.pending := by
  unfold State.takeState
  dsimp only
  split <;> simp
@[simp] theorem State.takeState_mode (s : State) (n : NodeId) (r : Node) (levels : BitVec 16) (q : Byte) :
    (s.takeState n r levels q).mode = s.mode := by
  unfold State.takeState
  dsimp only
  split <;> simp
@[simp] theorem State.takeState_retained (s : State) (n : NodeId) (r : Node) (levels : BitVec 16) (q : Byte) :
    (s.takeState n r levels q).retained = s.retained := by
  unfold State.takeState
  dsimp only
  split <;> simp
@[simp] theorem State.takeState_role (s : State) (n : NodeId) (r : Node) (levels : BitVec 16) (q : Byte) :
    (s.takeState n r levels q).role = s.role := by
  unfold State.takeState
  dsimp only
  split <;> simp
@[simp] theorem State.takeState_resyncWait (s : State) (n : NodeId) (r : Node) (levels : BitVec 16) (q : Byte) :
    (s.takeState n r levels q).resyncWait = s.resyncWait := by
  unfold State.takeState
  dsimp only
  split <;> simp
@[simp] theorem State.takeState_resyncTries (s : State) (n : NodeId) (r : Node) (levels : BitVec 16) (q : Byte) :
    (s.takeState n r levels q).resyncTries = s.resyncTries := by
  unfold State.takeState
  dsimp only
  split <;> simp
@[simp] theorem State.takeState_counters (s : State) (n : NodeId) (r : Node) (levels : BitVec 16) (q : Byte) :
    (s.takeState n r levels q).counters = s.counters := by
  unfold State.takeState
  dsimp only
  split <;> simp
@[simp] theorem State.takeState_straps (s : State) (n : NodeId) (r : Node) (levels : BitVec 16) (q : Byte) :
    (s.takeState n r levels q).straps = s.straps := by
  unfold State.takeState
  dsimp only
  split <;> simp
@[simp] theorem State.takeState_promotion (s : State) (n : NodeId) (r : Node) (levels : BitVec 16) (q : Byte) :
    (s.takeState n r levels q).promotion = s.promotion := by
  unfold State.takeState
  dsimp only
  split <;> simp
@[simp] theorem State.takeState_grantNumber (s : State) (n : NodeId) (r : Node) (levels : BitVec 16) (q : Byte) :
    (s.takeState n r levels q).grantNumber = s.grantNumber := by
  unfold State.takeState
  dsimp only
  split <;> simp
@[simp] theorem State.takeState_contacts (s : State) (n : NodeId) (r : Node) (levels : BitVec 16) (q : Byte) :
    (s.takeState n r levels q).contacts = s.contacts := by
  unfold State.takeState
  dsimp only
  split <;> simp
@[simp] theorem State.takeState_trunk (s : State) (n : NodeId) (r : Node) (levels : BitVec 16) (q : Byte) :
    (s.takeState n r levels q).trunk = s.trunk := by
  unfold State.takeState
  dsimp only
  split <;> simp
@[simp] theorem State.takeState_field (s : State) (n : NodeId) (r : Node) (levels : BitVec 16) (q : Byte) :
    (s.takeState n r levels q).field = s.field := by
  unfold State.takeState
  dsimp only
  split <;> simp
@[simp] theorem State.takeState_pins (s : State) (n : NodeId) (r : Node) (levels : BitVec 16) (q : Byte) :
    (s.takeState n r levels q).pins = s.pins := by
  unfold State.takeState
  dsimp only
  split <;> simp

/-! ### nodeLost -/

@[simp] theorem State.nodeLost_pending (s : State) (j : SlotId) (n : NodeId) (r : Node) :
    (s.nodeLost j n r).pending = s.pending := by
  unfold State.nodeLost
  dsimp only
  split <;> simp
@[simp] theorem State.nodeLost_mode (s : State) (j : SlotId) (n : NodeId) (r : Node) :
    (s.nodeLost j n r).mode = s.mode := by
  unfold State.nodeLost
  dsimp only
  split <;> simp
@[simp] theorem State.nodeLost_retained (s : State) (j : SlotId) (n : NodeId) (r : Node) :
    (s.nodeLost j n r).retained = s.retained := by
  unfold State.nodeLost
  dsimp only
  split <;> simp
@[simp] theorem State.nodeLost_role (s : State) (j : SlotId) (n : NodeId) (r : Node) :
    (s.nodeLost j n r).role = s.role := by
  unfold State.nodeLost
  dsimp only
  split <;> simp
@[simp] theorem State.nodeLost_resyncWait (s : State) (j : SlotId) (n : NodeId) (r : Node) :
    (s.nodeLost j n r).resyncWait = s.resyncWait := by
  unfold State.nodeLost
  dsimp only
  split <;> simp
@[simp] theorem State.nodeLost_resyncTries (s : State) (j : SlotId) (n : NodeId) (r : Node) :
    (s.nodeLost j n r).resyncTries = s.resyncTries := by
  unfold State.nodeLost
  dsimp only
  split <;> simp
@[simp] theorem State.nodeLost_counters (s : State) (j : SlotId) (n : NodeId) (r : Node) :
    (s.nodeLost j n r).counters = s.counters := by
  unfold State.nodeLost
  dsimp only
  split <;> simp
@[simp] theorem State.nodeLost_straps (s : State) (j : SlotId) (n : NodeId) (r : Node) :
    (s.nodeLost j n r).straps = s.straps := by
  unfold State.nodeLost
  dsimp only
  split <;> simp
@[simp] theorem State.nodeLost_promotion (s : State) (j : SlotId) (n : NodeId) (r : Node) :
    (s.nodeLost j n r).promotion = s.promotion := by
  unfold State.nodeLost
  dsimp only
  split <;> simp
@[simp] theorem State.nodeLost_grantNumber (s : State) (j : SlotId) (n : NodeId) (r : Node) :
    (s.nodeLost j n r).grantNumber = s.grantNumber := by
  unfold State.nodeLost
  dsimp only
  split <;> simp
@[simp] theorem State.nodeLost_contacts (s : State) (j : SlotId) (n : NodeId) (r : Node) :
    (s.nodeLost j n r).contacts = s.contacts := by
  unfold State.nodeLost
  dsimp only
  split <;> simp
@[simp] theorem State.nodeLost_trunk (s : State) (j : SlotId) (n : NodeId) (r : Node) :
    (s.nodeLost j n r).trunk = s.trunk := by
  unfold State.nodeLost
  dsimp only
  split <;> simp
@[simp] theorem State.nodeLost_field (s : State) (j : SlotId) (n : NodeId) (r : Node) :
    (s.nodeLost j n r).field = s.field := by
  unfold State.nodeLost
  dsimp only
  split <;> simp
@[simp] theorem State.nodeLost_pins (s : State) (j : SlotId) (n : NodeId) (r : Node) :
    (s.nodeLost j n r).pins = s.pins := by
  unfold State.nodeLost
  dsimp only
  split <;> simp

/-! ### waitExpiry -/

@[simp] theorem State.waitExpiry_pending (s : State) (j : SlotId) : (s.waitExpiry j).pending = s.pending := by
  unfold State.waitExpiry
  (repeat' split) <;> simp
@[simp] theorem State.waitExpiry_mode (s : State) (j : SlotId) : (s.waitExpiry j).mode = s.mode := by
  unfold State.waitExpiry
  (repeat' split) <;> simp
@[simp] theorem State.waitExpiry_retained (s : State) (j : SlotId) : (s.waitExpiry j).retained = s.retained := by
  unfold State.waitExpiry
  (repeat' split) <;> simp
@[simp] theorem State.waitExpiry_role (s : State) (j : SlotId) : (s.waitExpiry j).role = s.role := by
  unfold State.waitExpiry
  (repeat' split) <;> simp
@[simp] theorem State.waitExpiry_resyncWait (s : State) (j : SlotId) : (s.waitExpiry j).resyncWait = s.resyncWait :=
  by
  unfold State.waitExpiry
  (repeat' split) <;> simp
@[simp] theorem State.waitExpiry_resyncTries (s : State) (j : SlotId) :
    (s.waitExpiry j).resyncTries = s.resyncTries := by
  unfold State.waitExpiry
  (repeat' split) <;> simp
@[simp] theorem State.waitExpiry_counters (s : State) (j : SlotId) : (s.waitExpiry j).counters = s.counters := by
  unfold State.waitExpiry
  (repeat' split) <;> simp
@[simp] theorem State.waitExpiry_straps (s : State) (j : SlotId) : (s.waitExpiry j).straps = s.straps := by
  unfold State.waitExpiry
  (repeat' split) <;> simp
@[simp] theorem State.waitExpiry_promotion (s : State) (j : SlotId) : (s.waitExpiry j).promotion = s.promotion := by
  unfold State.waitExpiry
  (repeat' split) <;> simp
@[simp] theorem State.waitExpiry_grantNumber (s : State) (j : SlotId) :
    (s.waitExpiry j).grantNumber = s.grantNumber := by
  unfold State.waitExpiry
  (repeat' split) <;> simp
@[simp] theorem State.waitExpiry_contacts (s : State) (j : SlotId) : (s.waitExpiry j).contacts = s.contacts := by
  unfold State.waitExpiry
  (repeat' split) <;> simp
@[simp] theorem State.waitExpiry_trunk (s : State) (j : SlotId) : (s.waitExpiry j).trunk = s.trunk := by
  unfold State.waitExpiry
  (repeat' split) <;> simp
@[simp] theorem State.waitExpiry_field (s : State) (j : SlotId) : (s.waitExpiry j).field = s.field := by
  unfold State.waitExpiry
  (repeat' split) <;> simp
@[simp] theorem State.waitExpiry_pins (s : State) (j : SlotId) : (s.waitExpiry j).pins = s.pins := by
  unfold State.waitExpiry
  (repeat' split) <;> simp

/-! ### contactReport -/

@[simp] theorem State.contactReport_pending (s : State) (n : Channel) (t : Option Transition) :
    (s.contactReport n t).pending = s.pending := by
  unfold State.contactReport
  split <;> simp
@[simp] theorem State.contactReport_mode (s : State) (n : Channel) (t : Option Transition) :
    (s.contactReport n t).mode = s.mode := by
  unfold State.contactReport
  split <;> simp
@[simp] theorem State.contactReport_retained (s : State) (n : Channel) (t : Option Transition) :
    (s.contactReport n t).retained = s.retained := by
  unfold State.contactReport
  split <;> simp
@[simp] theorem State.contactReport_role (s : State) (n : Channel) (t : Option Transition) :
    (s.contactReport n t).role = s.role := by
  unfold State.contactReport
  split <;> simp
@[simp] theorem State.contactReport_resyncWait (s : State) (n : Channel) (t : Option Transition) :
    (s.contactReport n t).resyncWait = s.resyncWait := by
  unfold State.contactReport
  split <;> simp
@[simp] theorem State.contactReport_resyncTries (s : State) (n : Channel) (t : Option Transition) :
    (s.contactReport n t).resyncTries = s.resyncTries := by
  unfold State.contactReport
  split <;> simp
@[simp] theorem State.contactReport_counters (s : State) (n : Channel) (t : Option Transition) :
    (s.contactReport n t).counters = s.counters := by
  unfold State.contactReport
  split <;> simp
@[simp] theorem State.contactReport_straps (s : State) (n : Channel) (t : Option Transition) :
    (s.contactReport n t).straps = s.straps := by
  unfold State.contactReport
  split <;> simp
@[simp] theorem State.contactReport_promotion (s : State) (n : Channel) (t : Option Transition) :
    (s.contactReport n t).promotion = s.promotion := by
  unfold State.contactReport
  split <;> simp
@[simp] theorem State.contactReport_grantNumber (s : State) (n : Channel) (t : Option Transition) :
    (s.contactReport n t).grantNumber = s.grantNumber := by
  unfold State.contactReport
  split <;> simp
@[simp] theorem State.contactReport_waitList (s : State) (n : Channel) (t : Option Transition) :
    (s.contactReport n t).waitList = s.waitList := by
  unfold State.contactReport
  split <;> simp
@[simp] theorem State.contactReport_slots (s : State) (n : Channel) (t : Option Transition) :
    (s.contactReport n t).slots = s.slots := by
  unfold State.contactReport
  split <;> simp
@[simp] theorem State.contactReport_contacts (s : State) (n : Channel) (t : Option Transition) :
    (s.contactReport n t).contacts = s.contacts := by
  unfold State.contactReport
  split <;> simp
@[simp] theorem State.contactReport_trunk (s : State) (n : Channel) (t : Option Transition) :
    (s.contactReport n t).trunk = s.trunk := by
  unfold State.contactReport
  split <;> simp
@[simp] theorem State.contactReport_field (s : State) (n : Channel) (t : Option Transition) :
    (s.contactReport n t).field = s.field := by
  unfold State.contactReport
  split <;> simp
@[simp] theorem State.contactReport_pins (s : State) (n : Channel) (t : Option Transition) :
    (s.contactReport n t).pins = s.pins := by
  unfold State.contactReport
  split <;> simp

/-! ### changeContact -/

@[simp] theorem State.changeContact_pending (s : State) (n : Channel) (c : Contact) :
    (s.changeContact n c).pending = s.pending := by simp [State.changeContact]
@[simp] theorem State.changeContact_mode (s : State) (n : Channel) (c : Contact) :
    (s.changeContact n c).mode = s.mode := by simp [State.changeContact]
@[simp] theorem State.changeContact_retained (s : State) (n : Channel) (c : Contact) :
    (s.changeContact n c).retained = s.retained := by simp [State.changeContact]
@[simp] theorem State.changeContact_role (s : State) (n : Channel) (c : Contact) :
    (s.changeContact n c).role = s.role := by simp [State.changeContact]
@[simp] theorem State.changeContact_resyncWait (s : State) (n : Channel) (c : Contact) :
    (s.changeContact n c).resyncWait = s.resyncWait := by simp [State.changeContact]
@[simp] theorem State.changeContact_resyncTries (s : State) (n : Channel) (c : Contact) :
    (s.changeContact n c).resyncTries = s.resyncTries := by simp [State.changeContact]
@[simp] theorem State.changeContact_counters (s : State) (n : Channel) (c : Contact) :
    (s.changeContact n c).counters = s.counters := by simp [State.changeContact]
@[simp] theorem State.changeContact_straps (s : State) (n : Channel) (c : Contact) :
    (s.changeContact n c).straps = s.straps := by simp [State.changeContact]
@[simp] theorem State.changeContact_promotion (s : State) (n : Channel) (c : Contact) :
    (s.changeContact n c).promotion = s.promotion := by simp [State.changeContact]
@[simp] theorem State.changeContact_grantNumber (s : State) (n : Channel) (c : Contact) :
    (s.changeContact n c).grantNumber = s.grantNumber := by simp [State.changeContact]
@[simp] theorem State.changeContact_waitList (s : State) (n : Channel) (c : Contact) :
    (s.changeContact n c).waitList = s.waitList := by simp [State.changeContact]
@[simp] theorem State.changeContact_slots (s : State) (n : Channel) (c : Contact) :
    (s.changeContact n c).slots = s.slots := by simp [State.changeContact]
@[simp] theorem State.changeContact_trunk (s : State) (n : Channel) (c : Contact) :
    (s.changeContact n c).trunk = s.trunk := by simp [State.changeContact]
@[simp] theorem State.changeContact_field (s : State) (n : Channel) (c : Contact) :
    (s.changeContact n c).field = s.field := by simp [State.changeContact]
@[simp] theorem State.changeContact_pins (s : State) (n : Channel) (c : Contact) :
    (s.changeContact n c).pins = s.pins := by simp [State.changeContact]

/-! ### sampleInput -/

@[simp] theorem State.sampleInput_pending (s : State) (n : Channel) : (s.sampleInput n).pending = s.pending :=
  by simp [State.sampleInput]
@[simp] theorem State.sampleInput_mode (s : State) (n : Channel) : (s.sampleInput n).mode = s.mode :=
  by simp [State.sampleInput]
@[simp] theorem State.sampleInput_retained (s : State) (n : Channel) : (s.sampleInput n).retained = s.retained :=
  by simp [State.sampleInput]
@[simp] theorem State.sampleInput_role (s : State) (n : Channel) : (s.sampleInput n).role = s.role :=
  by simp [State.sampleInput]
@[simp] theorem State.sampleInput_resyncWait (s : State) (n : Channel) :
    (s.sampleInput n).resyncWait = s.resyncWait := by simp [State.sampleInput]
@[simp] theorem State.sampleInput_resyncTries (s : State) (n : Channel) :
    (s.sampleInput n).resyncTries = s.resyncTries := by simp [State.sampleInput]
@[simp] theorem State.sampleInput_counters (s : State) (n : Channel) : (s.sampleInput n).counters = s.counters :=
  by simp [State.sampleInput]
@[simp] theorem State.sampleInput_straps (s : State) (n : Channel) : (s.sampleInput n).straps = s.straps :=
  by simp [State.sampleInput]
@[simp] theorem State.sampleInput_promotion (s : State) (n : Channel) : (s.sampleInput n).promotion = s.promotion :=
  by simp [State.sampleInput]
@[simp] theorem State.sampleInput_grantNumber (s : State) (n : Channel) :
    (s.sampleInput n).grantNumber = s.grantNumber := by simp [State.sampleInput]
@[simp] theorem State.sampleInput_waitList (s : State) (n : Channel) : (s.sampleInput n).waitList = s.waitList :=
  by simp [State.sampleInput]
@[simp] theorem State.sampleInput_slots (s : State) (n : Channel) : (s.sampleInput n).slots = s.slots :=
  by simp [State.sampleInput]
@[simp] theorem State.sampleInput_trunk (s : State) (n : Channel) : (s.sampleInput n).trunk = s.trunk :=
  by simp [State.sampleInput]
@[simp] theorem State.sampleInput_field (s : State) (n : Channel) : (s.sampleInput n).field = s.field :=
  by simp [State.sampleInput]
@[simp] theorem State.sampleInput_pins (s : State) (n : Channel) : (s.sampleInput n).pins = s.pins :=
  by simp [State.sampleInput]

/-! ### refreshNode0 -/

@[simp] theorem State.refreshNode0_pending (s : State) : (s.refreshNode0).pending = s.pending :=
  by simp [State.refreshNode0]
@[simp] theorem State.refreshNode0_mode (s : State) : (s.refreshNode0).mode = s.mode := by simp [State.refreshNode0]
@[simp] theorem State.refreshNode0_retained (s : State) : (s.refreshNode0).retained = s.retained :=
  by simp [State.refreshNode0]
@[simp] theorem State.refreshNode0_role (s : State) : (s.refreshNode0).role = s.role := by simp [State.refreshNode0]
@[simp] theorem State.refreshNode0_resyncWait (s : State) : (s.refreshNode0).resyncWait = s.resyncWait :=
  by simp [State.refreshNode0]
@[simp] theorem State.refreshNode0_resyncTries (s : State) : (s.refreshNode0).resyncTries = s.resyncTries :=
  by simp [State.refreshNode0]
@[simp] theorem State.refreshNode0_counters (s : State) : (s.refreshNode0).counters = s.counters :=
  by simp [State.refreshNode0]
@[simp] theorem State.refreshNode0_straps (s : State) : (s.refreshNode0).straps = s.straps :=
  by simp [State.refreshNode0]
@[simp] theorem State.refreshNode0_promotion (s : State) : (s.refreshNode0).promotion = s.promotion :=
  by simp [State.refreshNode0]
@[simp] theorem State.refreshNode0_grantNumber (s : State) : (s.refreshNode0).grantNumber = s.grantNumber :=
  by simp [State.refreshNode0]
@[simp] theorem State.refreshNode0_nodes (s : State) : (s.refreshNode0).nodes = s.nodes :=
  by simp [State.refreshNode0]
@[simp] theorem State.refreshNode0_node (s : State) (x : NodeId) :
    (s.refreshNode0).node x = s.node x := by simp only [State.node, State.refreshNode0_nodes]
@[simp] theorem State.refreshNode0_waitList (s : State) : (s.refreshNode0).waitList = s.waitList :=
  by simp [State.refreshNode0]
@[simp] theorem State.refreshNode0_slots (s : State) : (s.refreshNode0).slots = s.slots :=
  by simp [State.refreshNode0]
@[simp] theorem State.refreshNode0_contacts (s : State) : (s.refreshNode0).contacts = s.contacts :=
  by simp [State.refreshNode0]
@[simp] theorem State.refreshNode0_trunk (s : State) : (s.refreshNode0).trunk = s.trunk :=
  by simp [State.refreshNode0]
@[simp] theorem State.refreshNode0_field (s : State) : (s.refreshNode0).field = s.field :=
  by simp [State.refreshNode0]
@[simp] theorem State.refreshNode0_pins (s : State) : (s.refreshNode0).pins = s.pins := by simp [State.refreshNode0]

/-! ### withdraw -/

@[simp] theorem State.withdraw_pending (s : State) (i : SourceIx) (a : Source) :
    (s.withdraw i a).pending = s.pending := by
  unfold State.withdraw
  split <;> simp
@[simp] theorem State.withdraw_mode (s : State) (i : SourceIx) (a : Source) : (s.withdraw i a).mode = s.mode := by
  unfold State.withdraw
  split <;> simp
@[simp] theorem State.withdraw_retained (s : State) (i : SourceIx) (a : Source) :
    (s.withdraw i a).retained = s.retained := by
  unfold State.withdraw
  split <;> simp
@[simp] theorem State.withdraw_role (s : State) (i : SourceIx) (a : Source) : (s.withdraw i a).role = s.role := by
  unfold State.withdraw
  split <;> simp
@[simp] theorem State.withdraw_resyncWait (s : State) (i : SourceIx) (a : Source) :
    (s.withdraw i a).resyncWait = s.resyncWait := by
  unfold State.withdraw
  split <;> simp
@[simp] theorem State.withdraw_resyncTries (s : State) (i : SourceIx) (a : Source) :
    (s.withdraw i a).resyncTries = s.resyncTries := by
  unfold State.withdraw
  split <;> simp
@[simp] theorem State.withdraw_counters (s : State) (i : SourceIx) (a : Source) :
    (s.withdraw i a).counters = s.counters := by
  unfold State.withdraw
  split <;> simp
@[simp] theorem State.withdraw_straps (s : State) (i : SourceIx) (a : Source) : (s.withdraw i a).straps = s.straps :=
  by
  unfold State.withdraw
  split <;> simp
@[simp] theorem State.withdraw_sources (s : State) (i : SourceIx) (a : Source) :
    (s.withdraw i a).sources = s.sources := by
  unfold State.withdraw
  split <;> simp
@[simp] theorem State.withdraw_source (s : State) (i : SourceIx) (a : Source) (x : SourceIx) :
    (s.withdraw i a).source x = s.source x := by simp only [State.source, State.withdraw_sources]
@[simp] theorem State.withdraw_promotion (s : State) (i : SourceIx) (a : Source) :
    (s.withdraw i a).promotion = s.promotion := by
  unfold State.withdraw
  split <;> simp
@[simp] theorem State.withdraw_grantNumber (s : State) (i : SourceIx) (a : Source) :
    (s.withdraw i a).grantNumber = s.grantNumber := by
  unfold State.withdraw
  split <;> simp
@[simp] theorem State.withdraw_nodes (s : State) (i : SourceIx) (a : Source) : (s.withdraw i a).nodes = s.nodes := by
  unfold State.withdraw
  split <;> simp
@[simp] theorem State.withdraw_node (s : State) (i : SourceIx) (a : Source) (x : NodeId) :
    (s.withdraw i a).node x = s.node x := by simp only [State.node, State.withdraw_nodes]
@[simp] theorem State.withdraw_waitList (s : State) (i : SourceIx) (a : Source) :
    (s.withdraw i a).waitList = s.waitList := by
  unfold State.withdraw
  split <;> simp
@[simp] theorem State.withdraw_slots (s : State) (i : SourceIx) (a : Source) : (s.withdraw i a).slots = s.slots := by
  unfold State.withdraw
  split <;> simp
@[simp] theorem State.withdraw_contacts (s : State) (i : SourceIx) (a : Source) :
    (s.withdraw i a).contacts = s.contacts := by
  unfold State.withdraw
  split <;> simp
@[simp] theorem State.withdraw_trunk (s : State) (i : SourceIx) (a : Source) : (s.withdraw i a).trunk = s.trunk := by
  unfold State.withdraw
  split <;> simp
@[simp] theorem State.withdraw_field (s : State) (i : SourceIx) (a : Source) : (s.withdraw i a).field = s.field := by
  unfold State.withdraw
  split <;> simp
@[simp] theorem State.withdraw_pins (s : State) (i : SourceIx) (a : Source) : (s.withdraw i a).pins = s.pins := by
  unfold State.withdraw
  split <;> simp

/-! ### setBlocked -/

@[simp] theorem State.setBlocked_pending (s : State) (i : SourceIx) (b : Bool) (a : Source) :
    (s.setBlocked i b a).pending = s.pending := by
  unfold State.setBlocked
  dsimp only
  split <;> simp
@[simp] theorem State.setBlocked_mode (s : State) (i : SourceIx) (b : Bool) (a : Source) :
    (s.setBlocked i b a).mode = s.mode := by
  unfold State.setBlocked
  dsimp only
  split <;> simp
@[simp] theorem State.setBlocked_retained (s : State) (i : SourceIx) (b : Bool) (a : Source) :
    (s.setBlocked i b a).retained = s.retained := by
  unfold State.setBlocked
  dsimp only
  split <;> simp
@[simp] theorem State.setBlocked_role (s : State) (i : SourceIx) (b : Bool) (a : Source) :
    (s.setBlocked i b a).role = s.role := by
  unfold State.setBlocked
  dsimp only
  split <;> simp
@[simp] theorem State.setBlocked_resyncWait (s : State) (i : SourceIx) (b : Bool) (a : Source) :
    (s.setBlocked i b a).resyncWait = s.resyncWait := by
  unfold State.setBlocked
  dsimp only
  split <;> simp
@[simp] theorem State.setBlocked_resyncTries (s : State) (i : SourceIx) (b : Bool) (a : Source) :
    (s.setBlocked i b a).resyncTries = s.resyncTries := by
  unfold State.setBlocked
  dsimp only
  split <;> simp
@[simp] theorem State.setBlocked_counters (s : State) (i : SourceIx) (b : Bool) (a : Source) :
    (s.setBlocked i b a).counters = s.counters := by
  unfold State.setBlocked
  dsimp only
  split <;> simp
@[simp] theorem State.setBlocked_straps (s : State) (i : SourceIx) (b : Bool) (a : Source) :
    (s.setBlocked i b a).straps = s.straps := by
  unfold State.setBlocked
  dsimp only
  split <;> simp
@[simp] theorem State.setBlocked_promotion (s : State) (i : SourceIx) (b : Bool) (a : Source) :
    (s.setBlocked i b a).promotion = s.promotion := by
  unfold State.setBlocked
  dsimp only
  split <;> simp
@[simp] theorem State.setBlocked_grantNumber (s : State) (i : SourceIx) (b : Bool) (a : Source) :
    (s.setBlocked i b a).grantNumber = s.grantNumber := by
  unfold State.setBlocked
  dsimp only
  split <;> simp
@[simp] theorem State.setBlocked_nodes (s : State) (i : SourceIx) (b : Bool) (a : Source) :
    (s.setBlocked i b a).nodes = s.nodes := by
  unfold State.setBlocked
  dsimp only
  split <;> simp
@[simp] theorem State.setBlocked_node (s : State) (i : SourceIx) (b : Bool) (a : Source) (x : NodeId) :
    (s.setBlocked i b a).node x = s.node x := by simp only [State.node, State.setBlocked_nodes]
@[simp] theorem State.setBlocked_waitList (s : State) (i : SourceIx) (b : Bool) (a : Source) :
    (s.setBlocked i b a).waitList = s.waitList := by
  unfold State.setBlocked
  dsimp only
  split <;> simp
@[simp] theorem State.setBlocked_slots (s : State) (i : SourceIx) (b : Bool) (a : Source) :
    (s.setBlocked i b a).slots = s.slots := by
  unfold State.setBlocked
  dsimp only
  split <;> simp
@[simp] theorem State.setBlocked_contacts (s : State) (i : SourceIx) (b : Bool) (a : Source) :
    (s.setBlocked i b a).contacts = s.contacts := by
  unfold State.setBlocked
  dsimp only
  split <;> simp
@[simp] theorem State.setBlocked_trunk (s : State) (i : SourceIx) (b : Bool) (a : Source) :
    (s.setBlocked i b a).trunk = s.trunk := by
  unfold State.setBlocked
  dsimp only
  split <;> simp
@[simp] theorem State.setBlocked_field (s : State) (i : SourceIx) (b : Bool) (a : Source) :
    (s.setBlocked i b a).field = s.field := by
  unfold State.setBlocked
  dsimp only
  split <;> simp
@[simp] theorem State.setBlocked_pins (s : State) (i : SourceIx) (b : Bool) (a : Source) :
    (s.setBlocked i b a).pins = s.pins := by
  unfold State.setBlocked
  dsimp only
  split <;> simp

/-! ### expire -/

@[simp] theorem State.expire_pending (s : State) (k : AgentId) (c : Claim) : (s.expire k c).pending = s.pending :=
  by simp [State.expire]
@[simp] theorem State.expire_mode (s : State) (k : AgentId) (c : Claim) : (s.expire k c).mode = s.mode :=
  by simp [State.expire]
@[simp] theorem State.expire_retained (s : State) (k : AgentId) (c : Claim) : (s.expire k c).retained = s.retained :=
  by simp [State.expire]
@[simp] theorem State.expire_role (s : State) (k : AgentId) (c : Claim) : (s.expire k c).role = s.role :=
  by simp [State.expire]
@[simp] theorem State.expire_resyncWait (s : State) (k : AgentId) (c : Claim) :
    (s.expire k c).resyncWait = s.resyncWait := by simp [State.expire]
@[simp] theorem State.expire_resyncTries (s : State) (k : AgentId) (c : Claim) :
    (s.expire k c).resyncTries = s.resyncTries := by simp [State.expire]
@[simp] theorem State.expire_counters (s : State) (k : AgentId) (c : Claim) : (s.expire k c).counters = s.counters :=
  by simp [State.expire]
@[simp] theorem State.expire_straps (s : State) (k : AgentId) (c : Claim) : (s.expire k c).straps = s.straps :=
  by simp [State.expire]
@[simp] theorem State.expire_promotion (s : State) (k : AgentId) (c : Claim) :
    (s.expire k c).promotion = s.promotion := by simp [State.expire]
@[simp] theorem State.expire_grantNumber (s : State) (k : AgentId) (c : Claim) :
    (s.expire k c).grantNumber = s.grantNumber := by simp [State.expire]
@[simp] theorem State.expire_nodes (s : State) (k : AgentId) (c : Claim) : (s.expire k c).nodes = s.nodes :=
  by simp [State.expire]
@[simp] theorem State.expire_node (s : State) (k : AgentId) (c : Claim) (x : NodeId) :
    (s.expire k c).node x = s.node x := by simp only [State.node, State.expire_nodes]
@[simp] theorem State.expire_waitList (s : State) (k : AgentId) (c : Claim) : (s.expire k c).waitList = s.waitList :=
  by simp [State.expire]
@[simp] theorem State.expire_slots (s : State) (k : AgentId) (c : Claim) : (s.expire k c).slots = s.slots :=
  by simp [State.expire]
@[simp] theorem State.expire_contacts (s : State) (k : AgentId) (c : Claim) : (s.expire k c).contacts = s.contacts :=
  by simp [State.expire]
@[simp] theorem State.expire_trunk (s : State) (k : AgentId) (c : Claim) : (s.expire k c).trunk = s.trunk :=
  by simp [State.expire]
@[simp] theorem State.expire_field (s : State) (k : AgentId) (c : Claim) : (s.expire k c).field = s.field :=
  by simp [State.expire]
@[simp] theorem State.expire_pins (s : State) (k : AgentId) (c : Claim) : (s.expire k c).pins = s.pins :=
  by simp [State.expire]

/-! ### queryTransmitted -/

@[simp] theorem State.queryTransmitted_pending (s : State) (dest : Byte) :
    (s.queryTransmitted dest).pending = s.pending := by
  unfold State.queryTransmitted
  split
  · rfl
  · split <;> simp
@[simp] theorem State.queryTransmitted_mode (s : State) (dest : Byte) : (s.queryTransmitted dest).mode = s.mode := by
  unfold State.queryTransmitted
  split
  · rfl
  · split <;> simp
@[simp] theorem State.queryTransmitted_retained (s : State) (dest : Byte) :
    (s.queryTransmitted dest).retained = s.retained := by
  unfold State.queryTransmitted
  split
  · rfl
  · split <;> simp
@[simp] theorem State.queryTransmitted_role (s : State) (dest : Byte) : (s.queryTransmitted dest).role = s.role := by
  unfold State.queryTransmitted
  split
  · rfl
  · split <;> simp
@[simp] theorem State.queryTransmitted_resyncWait (s : State) (dest : Byte) :
    (s.queryTransmitted dest).resyncWait = s.resyncWait := by
  unfold State.queryTransmitted
  split
  · rfl
  · split <;> simp
@[simp] theorem State.queryTransmitted_resyncTries (s : State) (dest : Byte) :
    (s.queryTransmitted dest).resyncTries = s.resyncTries := by
  unfold State.queryTransmitted
  split
  · rfl
  · split <;> simp
@[simp] theorem State.queryTransmitted_counters (s : State) (dest : Byte) :
    (s.queryTransmitted dest).counters = s.counters := by
  unfold State.queryTransmitted
  split
  · rfl
  · split <;> simp
@[simp] theorem State.queryTransmitted_straps (s : State) (dest : Byte) :
    (s.queryTransmitted dest).straps = s.straps := by
  unfold State.queryTransmitted
  split
  · rfl
  · split <;> simp
@[simp] theorem State.queryTransmitted_sources (s : State) (dest : Byte) :
    (s.queryTransmitted dest).sources = s.sources := by
  unfold State.queryTransmitted
  split
  · rfl
  · split <;> simp
@[simp] theorem State.queryTransmitted_source (s : State) (dest : Byte) (x : SourceIx) :
    (s.queryTransmitted dest).source x = s.source x := by simp only [State.source, State.queryTransmitted_sources]
@[simp] theorem State.queryTransmitted_promotion (s : State) (dest : Byte) :
    (s.queryTransmitted dest).promotion = s.promotion := by
  unfold State.queryTransmitted
  split
  · rfl
  · split <;> simp
@[simp] theorem State.queryTransmitted_agents (s : State) (dest : Byte) :
    (s.queryTransmitted dest).agents = s.agents := by
  unfold State.queryTransmitted
  split
  · rfl
  · split <;> simp
@[simp] theorem State.queryTransmitted_agent (s : State) (dest : Byte) (x : AgentId) :
    (s.queryTransmitted dest).agent x = s.agent x := by simp only [State.agent, State.queryTransmitted_agents]
@[simp] theorem State.queryTransmitted_grantNumber (s : State) (dest : Byte) :
    (s.queryTransmitted dest).grantNumber = s.grantNumber := by
  unfold State.queryTransmitted
  split
  · rfl
  · split <;> simp
@[simp] theorem State.queryTransmitted_waitList (s : State) (dest : Byte) :
    (s.queryTransmitted dest).waitList = s.waitList := by
  unfold State.queryTransmitted
  split
  · rfl
  · split <;> simp
@[simp] theorem State.queryTransmitted_contacts (s : State) (dest : Byte) :
    (s.queryTransmitted dest).contacts = s.contacts := by
  unfold State.queryTransmitted
  split
  · rfl
  · split <;> simp
@[simp] theorem State.queryTransmitted_trunk (s : State) (dest : Byte) : (s.queryTransmitted dest).trunk = s.trunk :=
  by
  unfold State.queryTransmitted
  split
  · rfl
  · split <;> simp
@[simp] theorem State.queryTransmitted_field (s : State) (dest : Byte) : (s.queryTransmitted dest).field = s.field :=
  by
  unfold State.queryTransmitted
  split
  · rfl
  · split <;> simp
@[simp] theorem State.queryTransmitted_pins (s : State) (dest : Byte) : (s.queryTransmitted dest).pins = s.pins := by
  unfold State.queryTransmitted
  split
  · rfl
  · split <;> simp

/-! ### fieldUp -/

@[simp] theorem State.fieldUp_pending (s : State) : (s.fieldUp).pending = s.pending := by simp [State.fieldUp]
@[simp] theorem State.fieldUp_mode (s : State) : (s.fieldUp).mode = s.mode := by simp [State.fieldUp]
@[simp] theorem State.fieldUp_retained (s : State) : (s.fieldUp).retained = s.retained := by simp [State.fieldUp]
@[simp] theorem State.fieldUp_role (s : State) : (s.fieldUp).role = s.role := by simp [State.fieldUp]
@[simp] theorem State.fieldUp_resyncWait (s : State) : (s.fieldUp).resyncWait = s.resyncWait :=
  by simp [State.fieldUp]
@[simp] theorem State.fieldUp_resyncTries (s : State) : (s.fieldUp).resyncTries = s.resyncTries :=
  by simp [State.fieldUp]
@[simp] theorem State.fieldUp_counters (s : State) : (s.fieldUp).counters = s.counters := by simp [State.fieldUp]
@[simp] theorem State.fieldUp_straps (s : State) : (s.fieldUp).straps = s.straps := by simp [State.fieldUp]
@[simp] theorem State.fieldUp_sources (s : State) : (s.fieldUp).sources = s.sources := by simp [State.fieldUp]
@[simp] theorem State.fieldUp_source (s : State) (x : SourceIx) :
    (s.fieldUp).source x = s.source x := by simp only [State.source, State.fieldUp_sources]
@[simp] theorem State.fieldUp_promotion (s : State) : (s.fieldUp).promotion = s.promotion := by simp [State.fieldUp]
@[simp] theorem State.fieldUp_grantNumber (s : State) : (s.fieldUp).grantNumber = s.grantNumber :=
  by simp [State.fieldUp]
@[simp] theorem State.fieldUp_contacts (s : State) : (s.fieldUp).contacts = s.contacts := by simp [State.fieldUp]
@[simp] theorem State.fieldUp_trunk (s : State) : (s.fieldUp).trunk = s.trunk := by simp [State.fieldUp]
@[simp] theorem State.fieldUp_field (s : State) : (s.fieldUp).field = s.field := by simp [State.fieldUp]
@[simp] theorem State.fieldUp_pins (s : State) : (s.fieldUp).pins = s.pins := by simp [State.fieldUp]

end Sys2Proof.Machine
end

