-- ==== Sys2Proof/Laws/Lines.lean ====
section
/-! SUPPORT. What the operations of a port do to each of its fields. -/

namespace Sys2Proof.Machine

open Sys2Proof

theorem Line.talks_of_up (l : Line) (h : l.link = .up) : l.talks = true := by simp [Line.talks, h]

/-- CREDITs go out at once or wait; nothing else of the port changes (R152). -/
theorem Line.sendCredits_eq (l : Line) (n : Nat) :
    l.sendCredits n = { l with
      creditsOwed := if l.talks = true ∧ l.sending ≠ none then l.creditsOwed + n else l.creditsOwed
      sent := if l.talks = true ∧ l.sending = none then l.sent ++ List.replicate n .credit else l.sent } := by
  unfold Line.sendCredits
  obtain ⟨link, sc, cg, rx, hold, sending, owed, queue, sent⟩ := l
  cases ht : Line.talks ⟨link, sc, cg, rx, hold, sending, owed, queue, sent⟩ <;> cases sending <;> simp

@[simp] theorem Line.sendCredits_link (l : Line) (n : Nat) : (l.sendCredits n).link = l.link := by
  simp [Line.sendCredits_eq]
@[simp] theorem Line.sendCredits_sendCredit (l : Line) (n : Nat) : (l.sendCredits n).sendCredit = l.sendCredit := by
  simp [Line.sendCredits_eq]
@[simp] theorem Line.sendCredits_creditGiven (l : Line) (n : Nat) : (l.sendCredits n).creditGiven = l.creditGiven := by
  simp [Line.sendCredits_eq]
@[simp] theorem Line.sendCredits_rx (l : Line) (n : Nat) : (l.sendCredits n).rx = l.rx := by
  simp [Line.sendCredits_eq]
@[simp] theorem Line.sendCredits_hold (l : Line) (n : Nat) : (l.sendCredits n).hold = l.hold := by
  simp [Line.sendCredits_eq]
@[simp] theorem Line.sendCredits_sending (l : Line) (n : Nat) : (l.sendCredits n).sending = l.sending := by
  simp [Line.sendCredits_eq]
@[simp] theorem Line.sendCredits_queue (l : Line) (n : Nat) : (l.sendCredits n).queue = l.queue := by
  simp [Line.sendCredits_eq]

/-- CREDITs wait only while a frame is being sent (R152). -/
theorem Line.sendCredits_creditsOwed_idle (l : Line) (n : Nat) (h : l.sending = none) :
    (l.sendCredits n).creditsOwed = l.creditsOwed := by simp [Line.sendCredits_eq, h]

@[simp] theorem Line.lend_link (l : Line) : l.lend.link = l.link := by simp [Line.lend]
@[simp] theorem Line.lend_sendCredit (l : Line) : l.lend.sendCredit = l.sendCredit := by simp [Line.lend]
@[simp] theorem Line.lend_creditGiven (l : Line) : l.lend.creditGiven = l.creditGiven + 1 := by simp [Line.lend]
@[simp] theorem Line.lend_rx (l : Line) : l.lend.rx = l.rx := by simp [Line.lend]
@[simp] theorem Line.lend_hold (l : Line) : l.lend.hold = l.hold := by simp [Line.lend]
@[simp] theorem Line.lend_sending (l : Line) : l.lend.sending = l.sending := by simp [Line.lend]
@[simp] theorem Line.lend_queue (l : Line) : l.lend.queue = l.queue := by simp [Line.lend]

theorem Line.lend_creditsOwed_idle (l : Line) (h : l.sending = none) : l.lend.creditsOwed = l.creditsOwed := by
  rw [Line.lend, Line.sendCredits_creditsOwed_idle _ _ (by simpa using h)]

@[simp] theorem Line.finishHead_link (l : Line) : l.finishHead.link = l.link := by simp [Line.finishHead]
@[simp] theorem Line.finishHead_sendCredit (l : Line) : l.finishHead.sendCredit = l.sendCredit := by
  simp [Line.finishHead]
@[simp] theorem Line.finishHead_creditGiven (l : Line) : l.finishHead.creditGiven = l.creditGiven + 1 := by
  simp [Line.finishHead]
@[simp] theorem Line.finishHead_rx (l : Line) : l.finishHead.rx = l.rx.tail := by simp [Line.finishHead]
@[simp] theorem Line.finishHead_hold (l : Line) : l.finishHead.hold = false := by simp [Line.finishHead]
@[simp] theorem Line.finishHead_sending (l : Line) : l.finishHead.sending = l.sending := by simp [Line.finishHead]
@[simp] theorem Line.finishHead_queue (l : Line) : l.finishHead.queue = l.queue := by simp [Line.finishHead]

theorem Line.finishHead_creditsOwed_idle (l : Line) (h : l.sending = none) :
    l.finishHead.creditsOwed = l.creditsOwed := by
  rw [Line.finishHead, Line.lend_creditsOwed_idle _ (by simpa using h)]

@[simp] theorem Line.place_link (l : Line) (f : Frame) (b : Bool) : (l.place f b).link = l.link := rfl
@[simp] theorem Line.place_sendCredit (l : Line) (f : Frame) (b : Bool) : (l.place f b).sendCredit = l.sendCredit := rfl
@[simp] theorem Line.place_creditGiven (l : Line) (f : Frame) (b : Bool) :
    (l.place f b).creditGiven = l.creditGiven := rfl
@[simp] theorem Line.place_rx (l : Line) (f : Frame) (b : Bool) : (l.place f b).rx = l.rx := rfl
@[simp] theorem Line.place_hold (l : Line) (f : Frame) (b : Bool) : (l.place f b).hold = l.hold := rfl
@[simp] theorem Line.place_sending (l : Line) (f : Frame) (b : Bool) : (l.place f b).sending = l.sending := rfl
@[simp] theorem Line.place_creditsOwed (l : Line) (f : Frame) (b : Bool) :
    (l.place f b).creditsOwed = l.creditsOwed := rfl
@[simp] theorem Line.place_sent (l : Line) (f : Frame) (b : Bool) : (l.place f b).sent = l.sent := rfl
@[simp] theorem Line.place_queue (l : Line) (f : Frame) (b : Bool) :
    (l.place f b).queue = l.queue ++ [{ frame := f, restart := b }] := rfl

end Sys2Proof.Machine
end

