-- ==== Sys2Proof/Laws/Operations.lean ====
section
/-! SUPPORT. One specification for each shared operation: what it does to the tables it works on. The fields it leaves
alone are in Sys2Proof.Laws.Frames. -/

namespace Sys2Proof.Machine

open Sys2Proof

/-! ## Counts -/

theorem satAdd_toNat {w : Nat} (c : BitVec w) (n : Nat) : (satAdd c n).toNat = min (c.toNat + n) (2 ^ w - 1) := by
  have h : min (c.toNat + n) (2 ^ w - 1) < 2 ^ w := by
    have := Nat.two_pow_pos w
    omega
  simp only [satAdd, BitVec.toNat_ofNat, Nat.mod_eq_of_lt h]

@[simp] theorem satAdd_zero {w : Nat} (c : BitVec w) : satAdd c 0 = c := by
  apply BitVec.eq_of_toNat_eq
  have := c.isLt
  rw [satAdd_toNat]
  omega

theorem satAdd_satAdd {w : Nat} (c : BitVec w) (m n : Nat) : satAdd (satAdd c m) n = satAdd c (m + n) := by
  apply BitVec.eq_of_toNat_eq
  simp only [satAdd_toNat]
  omega

/-! ## Re-evaluation -/

/-- A re-evaluation touches the alert flag of the record alone. -/
theorem State.evaluated_eq (s : State) (k : AgentId) : s.evaluated k = { s.agent k with
    alert := (s.agent k).alert || ((s.agent k).attached && decide (s.attention k ≠ (s.agent k).lastSent)) } := by
  unfold State.evaluated
  dsimp only
  split
  · rename_i h
    rw [h, Bool.or_true]
  · rename_i h
    rw [Bool.not_eq_true] at h
    rw [h, Bool.or_false]

/-- A re-evaluation changes no attention rank. -/
@[simp] theorem State.attention_reEvaluateAll (s : State) (k : AgentId) : s.reEvaluateAll.attention k = s.attention k :=
  State.attention_congr k rfl rfl (by simp [State.evaluated_eq]) (by simp [State.evaluated_eq])

@[simp] theorem State.attention_reEvaluate (s : State) (k j : AgentId) : (s.reEvaluate k).attention j = s.attention j := by
  refine State.attention_congr j rfl rfl ?_ ?_ <;>
  · rw [State.agent_reEvaluate]
    split
    · rename_i h
      subst h
      rw [State.evaluated_eq]
    · rfl

/-- After a re-evaluation an attached agent whose alert flag is clear has been told its attention rank (R59, R89). -/
theorem State.reEvaluateAll_told (s : State) (k : AgentId) (ha : (s.reEvaluateAll.agent k).attached = true)
    (hf : (s.reEvaluateAll.agent k).alert = false) :
    s.reEvaluateAll.attention k = (s.reEvaluateAll.agent k).lastSent := by
  rw [State.agent_reEvaluateAll, State.evaluated_eq] at ha hf
  rw [State.attention_reEvaluateAll, State.agent_reEvaluateAll, State.evaluated_eq]
  have hb : (s.agent k).attached = true := ha
  simpa [hb] using (Bool.or_eq_false_iff.1 hf).2

/-! ## An event on a source -/

theorem State.changeSource_vacant {s : State} {i : SourceIx} (f : Source → Source) (h : s.source i = none) :
    s.changeSource i f = s := by simp [State.changeSource, h]

theorem State.changeSource_loaded {s : State} {i : SourceIx} {a : Source} (f : Source → Source)
    (h : s.source i = some a) :
    s.changeSource i f = if (f a).status = a.status then s.setSource i (some (f a))
      else (s.setSource i (some (f a))).reEvaluateAll := by simp [State.changeSource, h]

/-- An event changes the source it is on, and no other. -/
theorem State.source_changeSource (s : State) (i : SourceIx) (f : Source → Source) (j : SourceIx) :
    (s.changeSource i f).source j = if i = j then (s.source i).map f else s.source j := by
  cases h : s.source i with
  | none =>
    rw [State.changeSource_vacant f h]
    split
    · rename_i e
      rw [← e, h]
      rfl
    · rfl
  | some a =>
    rw [State.changeSource_loaded f h]
    split <;> exact s.source_setSource i j (some (f a))

/-- An event on a source reaches an agent through its alert flag alone, and never clears it. -/
theorem State.agent_changeSource (s : State) (i : SourceIx) (f : Source → Source) (k : AgentId) :
    ∃ b : Bool, (s.changeSource i f).agent k = { s.agent k with alert := (s.agent k).alert || b } := by
  cases h : s.source i with
  | none => exact ⟨false, by rw [State.changeSource_vacant f h, Bool.or_false]⟩
  | some a =>
    rw [State.changeSource_loaded f h]
    split
    · exact ⟨false, by rw [Bool.or_false]; rfl⟩
    · exact ⟨_, by rw [State.agent_reEvaluateAll, State.evaluated_eq]; rfl⟩

/-! ### What re-evaluations and events leave of an agent -/

@[simp] theorem State.reEvaluateAll_agent_session (s : State) (j : AgentId) :
    ((s.reEvaluateAll).agent j).session = (s.agent j).session := by
  rw [State.agent_reEvaluateAll, State.evaluated_eq]
@[simp] theorem State.reEvaluateAll_agent_mask (s : State) (j : AgentId) :
    ((s.reEvaluateAll).agent j).mask = (s.agent j).mask := by
  rw [State.agent_reEvaluateAll, State.evaluated_eq]
@[simp] theorem State.reEvaluateAll_agent_serviceLimit (s : State) (j : AgentId) :
    ((s.reEvaluateAll).agent j).serviceLimit = (s.agent j).serviceLimit := by
  rw [State.agent_reEvaluateAll, State.evaluated_eq]
@[simp] theorem State.reEvaluateAll_agent_noticeFlag (s : State) (j : AgentId) :
    ((s.reEvaluateAll).agent j).noticeFlag = (s.agent j).noticeFlag := by
  rw [State.agent_reEvaluateAll, State.evaluated_eq]
@[simp] theorem State.reEvaluateAll_agent_claims (s : State) (j : AgentId) :
    ((s.reEvaluateAll).agent j).claims = (s.agent j).claims := by
  rw [State.agent_reEvaluateAll, State.evaluated_eq]
@[simp] theorem State.reEvaluateAll_agent_marks (s : State) (j : AgentId) :
    ((s.reEvaluateAll).agent j).marks = (s.agent j).marks := by
  rw [State.agent_reEvaluateAll, State.evaluated_eq]
@[simp] theorem State.reEvaluateAll_agent_notices (s : State) (j : AgentId) :
    ((s.reEvaluateAll).agent j).notices = (s.agent j).notices := by
  rw [State.agent_reEvaluateAll, State.evaluated_eq]
@[simp] theorem State.reEvaluateAll_agent_noticesLost (s : State) (j : AgentId) :
    ((s.reEvaluateAll).agent j).noticesLost = (s.agent j).noticesLost := by
  rw [State.agent_reEvaluateAll, State.evaluated_eq]
@[simp] theorem State.reEvaluateAll_agent_lastSent (s : State) (j : AgentId) :
    ((s.reEvaluateAll).agent j).lastSent = (s.agent j).lastSent := by
  rw [State.agent_reEvaluateAll, State.evaluated_eq]
@[simp] theorem State.reEvaluateAll_agent_reclaims (s : State) (j : AgentId) :
    ((s.reEvaluateAll).agent j).reclaims = (s.agent j).reclaims := by
  rw [State.agent_reEvaluateAll, State.evaluated_eq]
@[simp] theorem State.reEvaluate_agent_session (s : State) (k : AgentId) (j : AgentId) :
    ((s.reEvaluate k).agent j).session = (s.agent j).session := by
  rw [State.agent_reEvaluate]
  split
  · rename_i h
    rw [← h, State.evaluated_eq]
  · rfl
@[simp] theorem State.reEvaluate_agent_mask (s : State) (k : AgentId) (j : AgentId) :
    ((s.reEvaluate k).agent j).mask = (s.agent j).mask := by
  rw [State.agent_reEvaluate]
  split
  · rename_i h
    rw [← h, State.evaluated_eq]
  · rfl
@[simp] theorem State.reEvaluate_agent_serviceLimit (s : State) (k : AgentId) (j : AgentId) :
    ((s.reEvaluate k).agent j).serviceLimit = (s.agent j).serviceLimit := by
  rw [State.agent_reEvaluate]
  split
  · rename_i h
    rw [← h, State.evaluated_eq]
  · rfl
@[simp] theorem State.reEvaluate_agent_noticeFlag (s : State) (k : AgentId) (j : AgentId) :
    ((s.reEvaluate k).agent j).noticeFlag = (s.agent j).noticeFlag := by
  rw [State.agent_reEvaluate]
  split
  · rename_i h
    rw [← h, State.evaluated_eq]
  · rfl
@[simp] theorem State.reEvaluate_agent_claims (s : State) (k : AgentId) (j : AgentId) :
    ((s.reEvaluate k).agent j).claims = (s.agent j).claims := by
  rw [State.agent_reEvaluate]
  split
  · rename_i h
    rw [← h, State.evaluated_eq]
  · rfl
@[simp] theorem State.reEvaluate_agent_marks (s : State) (k : AgentId) (j : AgentId) :
    ((s.reEvaluate k).agent j).marks = (s.agent j).marks := by
  rw [State.agent_reEvaluate]
  split
  · rename_i h
    rw [← h, State.evaluated_eq]
  · rfl
@[simp] theorem State.reEvaluate_agent_notices (s : State) (k : AgentId) (j : AgentId) :
    ((s.reEvaluate k).agent j).notices = (s.agent j).notices := by
  rw [State.agent_reEvaluate]
  split
  · rename_i h
    rw [← h, State.evaluated_eq]
  · rfl
@[simp] theorem State.reEvaluate_agent_noticesLost (s : State) (k : AgentId) (j : AgentId) :
    ((s.reEvaluate k).agent j).noticesLost = (s.agent j).noticesLost := by
  rw [State.agent_reEvaluate]
  split
  · rename_i h
    rw [← h, State.evaluated_eq]
  · rfl
@[simp] theorem State.reEvaluate_agent_lastSent (s : State) (k : AgentId) (j : AgentId) :
    ((s.reEvaluate k).agent j).lastSent = (s.agent j).lastSent := by
  rw [State.agent_reEvaluate]
  split
  · rename_i h
    rw [← h, State.evaluated_eq]
  · rfl
@[simp] theorem State.reEvaluate_agent_reclaims (s : State) (k : AgentId) (j : AgentId) :
    ((s.reEvaluate k).agent j).reclaims = (s.agent j).reclaims := by
  rw [State.agent_reEvaluate]
  split
  · rename_i h
    rw [← h, State.evaluated_eq]
  · rfl
@[simp] theorem State.changeSource_agent_session (s : State) (i : SourceIx) (f : Source → Source) (j : AgentId) :
    ((s.changeSource i f).agent j).session = (s.agent j).session := by
  obtain ⟨b, h⟩ := s.agent_changeSource i f j
  rw [h]
@[simp] theorem State.changeSource_agent_mask (s : State) (i : SourceIx) (f : Source → Source) (j : AgentId) :
    ((s.changeSource i f).agent j).mask = (s.agent j).mask := by
  obtain ⟨b, h⟩ := s.agent_changeSource i f j
  rw [h]
@[simp] theorem State.changeSource_agent_serviceLimit (s : State) (i : SourceIx) (f : Source → Source) (j : AgentId) :
    ((s.changeSource i f).agent j).serviceLimit = (s.agent j).serviceLimit := by
  obtain ⟨b, h⟩ := s.agent_changeSource i f j
  rw [h]
@[simp] theorem State.changeSource_agent_noticeFlag (s : State) (i : SourceIx) (f : Source → Source) (j : AgentId) :
    ((s.changeSource i f).agent j).noticeFlag = (s.agent j).noticeFlag := by
  obtain ⟨b, h⟩ := s.agent_changeSource i f j
  rw [h]
@[simp] theorem State.changeSource_agent_claims (s : State) (i : SourceIx) (f : Source → Source) (j : AgentId) :
    ((s.changeSource i f).agent j).claims = (s.agent j).claims := by
  obtain ⟨b, h⟩ := s.agent_changeSource i f j
  rw [h]
@[simp] theorem State.changeSource_agent_marks (s : State) (i : SourceIx) (f : Source → Source) (j : AgentId) :
    ((s.changeSource i f).agent j).marks = (s.agent j).marks := by
  obtain ⟨b, h⟩ := s.agent_changeSource i f j
  rw [h]
@[simp] theorem State.changeSource_agent_notices (s : State) (i : SourceIx) (f : Source → Source) (j : AgentId) :
    ((s.changeSource i f).agent j).notices = (s.agent j).notices := by
  obtain ⟨b, h⟩ := s.agent_changeSource i f j
  rw [h]
@[simp] theorem State.changeSource_agent_noticesLost (s : State) (i : SourceIx) (f : Source → Source) (j : AgentId) :
    ((s.changeSource i f).agent j).noticesLost = (s.agent j).noticesLost := by
  obtain ⟨b, h⟩ := s.agent_changeSource i f j
  rw [h]
@[simp] theorem State.changeSource_agent_lastSent (s : State) (i : SourceIx) (f : Source → Source) (j : AgentId) :
    ((s.changeSource i f).agent j).lastSent = (s.agent j).lastSent := by
  obtain ⟨b, h⟩ := s.agent_changeSource i f j
  rw [h]
@[simp] theorem State.changeSource_agent_reclaims (s : State) (i : SourceIx) (f : Source → Source) (j : AgentId) :
    ((s.changeSource i f).agent j).reclaims = (s.agent j).reclaims := by
  obtain ⟨b, h⟩ := s.agent_changeSource i f j
  rw [h]

/-! ## Transitions and levels from a node -/

/-- A transition of a channel is an event on the source keyed to it, or one more unmapped event (R95, R119). -/
theorem State.nodeTransition_cases (s : State) (n : NodeId) (c : Channel) (t : Transition) :
    (∃ i, s.keyed n c = some i ∧ s.nodeTransition n c t = s.changeSource i (Source.transition t)) ∨
    (s.keyed n c = none ∧
      s.nodeTransition n c t = s.modNode n fun r => { r with unmapped := satSucc r.unmapped }) := by
  unfold State.nodeTransition
  cases h : s.keyed n c with
  | none => exact Or.inr ⟨rfl, rfl⟩
  | some i => exact Or.inl ⟨i, rfl, rfl⟩

@[simp] theorem State.nodeTransition_agent_session (s : State) (n : NodeId) (c : Channel) (t : Transition) (j : AgentId) :
    ((s.nodeTransition n c t).agent j).session = (s.agent j).session := by
  rcases s.nodeTransition_cases n c t with ⟨i, _, h⟩ | ⟨_, h⟩
  · rw [h, State.changeSource_agent_session]
  · rw [h]
    rfl
@[simp] theorem State.nodeTransition_agent_mask (s : State) (n : NodeId) (c : Channel) (t : Transition) (j : AgentId) :
    ((s.nodeTransition n c t).agent j).mask = (s.agent j).mask := by
  rcases s.nodeTransition_cases n c t with ⟨i, _, h⟩ | ⟨_, h⟩
  · rw [h, State.changeSource_agent_mask]
  · rw [h]
    rfl
@[simp] theorem State.nodeTransition_agent_serviceLimit (s : State) (n : NodeId) (c : Channel) (t : Transition) (j : AgentId) :
    ((s.nodeTransition n c t).agent j).serviceLimit = (s.agent j).serviceLimit := by
  rcases s.nodeTransition_cases n c t with ⟨i, _, h⟩ | ⟨_, h⟩
  · rw [h, State.changeSource_agent_serviceLimit]
  · rw [h]
    rfl
@[simp] theorem State.nodeTransition_agent_noticeFlag (s : State) (n : NodeId) (c : Channel) (t : Transition) (j : AgentId) :
    ((s.nodeTransition n c t).agent j).noticeFlag = (s.agent j).noticeFlag := by
  rcases s.nodeTransition_cases n c t with ⟨i, _, h⟩ | ⟨_, h⟩
  · rw [h, State.changeSource_agent_noticeFlag]
  · rw [h]
    rfl
@[simp] theorem State.nodeTransition_agent_claims (s : State) (n : NodeId) (c : Channel) (t : Transition) (j : AgentId) :
    ((s.nodeTransition n c t).agent j).claims = (s.agent j).claims := by
  rcases s.nodeTransition_cases n c t with ⟨i, _, h⟩ | ⟨_, h⟩
  · rw [h, State.changeSource_agent_claims]
  · rw [h]
    rfl
@[simp] theorem State.nodeTransition_agent_marks (s : State) (n : NodeId) (c : Channel) (t : Transition) (j : AgentId) :
    ((s.nodeTransition n c t).agent j).marks = (s.agent j).marks := by
  rcases s.nodeTransition_cases n c t with ⟨i, _, h⟩ | ⟨_, h⟩
  · rw [h, State.changeSource_agent_marks]
  · rw [h]
    rfl
@[simp] theorem State.nodeTransition_agent_notices (s : State) (n : NodeId) (c : Channel) (t : Transition) (j : AgentId) :
    ((s.nodeTransition n c t).agent j).notices = (s.agent j).notices := by
  rcases s.nodeTransition_cases n c t with ⟨i, _, h⟩ | ⟨_, h⟩
  · rw [h, State.changeSource_agent_notices]
  · rw [h]
    rfl
@[simp] theorem State.nodeTransition_agent_noticesLost (s : State) (n : NodeId) (c : Channel) (t : Transition) (j : AgentId) :
    ((s.nodeTransition n c t).agent j).noticesLost = (s.agent j).noticesLost := by
  rcases s.nodeTransition_cases n c t with ⟨i, _, h⟩ | ⟨_, h⟩
  · rw [h, State.changeSource_agent_noticesLost]
  · rw [h]
    rfl
@[simp] theorem State.nodeTransition_agent_lastSent (s : State) (n : NodeId) (c : Channel) (t : Transition) (j : AgentId) :
    ((s.nodeTransition n c t).agent j).lastSent = (s.agent j).lastSent := by
  rcases s.nodeTransition_cases n c t with ⟨i, _, h⟩ | ⟨_, h⟩
  · rw [h, State.changeSource_agent_lastSent]
  · rw [h]
    rfl
@[simp] theorem State.nodeTransition_agent_reclaims (s : State) (n : NodeId) (c : Channel) (t : Transition) (j : AgentId) :
    ((s.nodeTransition n c t).agent j).reclaims = (s.agent j).reclaims := by
  rcases s.nodeTransition_cases n c t with ⟨i, _, h⟩ | ⟨_, h⟩
  · rw [h, State.changeSource_agent_reclaims]
  · rw [h]
    rfl
@[simp] theorem State.nodeLevel_agent_session (s : State) (n : NodeId) (v : Channel → Bool) (c : Channel) (j : AgentId) :
    ((s.nodeLevel n v c).agent j).session = (s.agent j).session := by
  unfold State.nodeLevel
  split
  · rw [State.changeSource_agent_session]
  · rfl
@[simp] theorem State.nodeLevel_agent_mask (s : State) (n : NodeId) (v : Channel → Bool) (c : Channel) (j : AgentId) :
    ((s.nodeLevel n v c).agent j).mask = (s.agent j).mask := by
  unfold State.nodeLevel
  split
  · rw [State.changeSource_agent_mask]
  · rfl
@[simp] theorem State.nodeLevel_agent_serviceLimit (s : State) (n : NodeId) (v : Channel → Bool) (c : Channel) (j : AgentId) :
    ((s.nodeLevel n v c).agent j).serviceLimit = (s.agent j).serviceLimit := by
  unfold State.nodeLevel
  split
  · rw [State.changeSource_agent_serviceLimit]
  · rfl
@[simp] theorem State.nodeLevel_agent_noticeFlag (s : State) (n : NodeId) (v : Channel → Bool) (c : Channel) (j : AgentId) :
    ((s.nodeLevel n v c).agent j).noticeFlag = (s.agent j).noticeFlag := by
  unfold State.nodeLevel
  split
  · rw [State.changeSource_agent_noticeFlag]
  · rfl
@[simp] theorem State.nodeLevel_agent_claims (s : State) (n : NodeId) (v : Channel → Bool) (c : Channel) (j : AgentId) :
    ((s.nodeLevel n v c).agent j).claims = (s.agent j).claims := by
  unfold State.nodeLevel
  split
  · rw [State.changeSource_agent_claims]
  · rfl
@[simp] theorem State.nodeLevel_agent_marks (s : State) (n : NodeId) (v : Channel → Bool) (c : Channel) (j : AgentId) :
    ((s.nodeLevel n v c).agent j).marks = (s.agent j).marks := by
  unfold State.nodeLevel
  split
  · rw [State.changeSource_agent_marks]
  · rfl
@[simp] theorem State.nodeLevel_agent_notices (s : State) (n : NodeId) (v : Channel → Bool) (c : Channel) (j : AgentId) :
    ((s.nodeLevel n v c).agent j).notices = (s.agent j).notices := by
  unfold State.nodeLevel
  split
  · rw [State.changeSource_agent_notices]
  · rfl
@[simp] theorem State.nodeLevel_agent_noticesLost (s : State) (n : NodeId) (v : Channel → Bool) (c : Channel) (j : AgentId) :
    ((s.nodeLevel n v c).agent j).noticesLost = (s.agent j).noticesLost := by
  unfold State.nodeLevel
  split
  · rw [State.changeSource_agent_noticesLost]
  · rfl
@[simp] theorem State.nodeLevel_agent_lastSent (s : State) (n : NodeId) (v : Channel → Bool) (c : Channel) (j : AgentId) :
    ((s.nodeLevel n v c).agent j).lastSent = (s.agent j).lastSent := by
  unfold State.nodeLevel
  split
  · rw [State.changeSource_agent_lastSent]
  · rfl
@[simp] theorem State.nodeLevel_agent_reclaims (s : State) (n : NodeId) (v : Channel → Bool) (c : Channel) (j : AgentId) :
    ((s.nodeLevel n v c).agent j).reclaims = (s.agent j).reclaims := by
  unfold State.nodeLevel
  split
  · rw [State.changeSource_agent_reclaims]
  · rfl
@[simp] theorem State.nodeLevels_agent_session (s : State) (n : NodeId) (v : Channel → Bool) (j : AgentId) :
    ((s.nodeLevels n v).agent j).session = (s.agent j).session :=
  foldl_keeps (fun t => (t.agent j).session) (State.nodeLevel n v) (fun t c => t.nodeLevel_agent_session n v c j) _ s
@[simp] theorem State.nodeLevels_agent_mask (s : State) (n : NodeId) (v : Channel → Bool) (j : AgentId) :
    ((s.nodeLevels n v).agent j).mask = (s.agent j).mask :=
  foldl_keeps (fun t => (t.agent j).mask) (State.nodeLevel n v) (fun t c => t.nodeLevel_agent_mask n v c j) _ s
@[simp] theorem State.nodeLevels_agent_serviceLimit (s : State) (n : NodeId) (v : Channel → Bool) (j : AgentId) :
    ((s.nodeLevels n v).agent j).serviceLimit = (s.agent j).serviceLimit :=
  foldl_keeps (fun t => (t.agent j).serviceLimit) (State.nodeLevel n v) (fun t c => t.nodeLevel_agent_serviceLimit n v c j) _ s
@[simp] theorem State.nodeLevels_agent_noticeFlag (s : State) (n : NodeId) (v : Channel → Bool) (j : AgentId) :
    ((s.nodeLevels n v).agent j).noticeFlag = (s.agent j).noticeFlag :=
  foldl_keeps (fun t => (t.agent j).noticeFlag) (State.nodeLevel n v) (fun t c => t.nodeLevel_agent_noticeFlag n v c j) _ s
@[simp] theorem State.nodeLevels_agent_claims (s : State) (n : NodeId) (v : Channel → Bool) (j : AgentId) :
    ((s.nodeLevels n v).agent j).claims = (s.agent j).claims :=
  foldl_keeps (fun t => (t.agent j).claims) (State.nodeLevel n v) (fun t c => t.nodeLevel_agent_claims n v c j) _ s
@[simp] theorem State.nodeLevels_agent_marks (s : State) (n : NodeId) (v : Channel → Bool) (j : AgentId) :
    ((s.nodeLevels n v).agent j).marks = (s.agent j).marks :=
  foldl_keeps (fun t => (t.agent j).marks) (State.nodeLevel n v) (fun t c => t.nodeLevel_agent_marks n v c j) _ s
@[simp] theorem State.nodeLevels_agent_notices (s : State) (n : NodeId) (v : Channel → Bool) (j : AgentId) :
    ((s.nodeLevels n v).agent j).notices = (s.agent j).notices :=
  foldl_keeps (fun t => (t.agent j).notices) (State.nodeLevel n v) (fun t c => t.nodeLevel_agent_notices n v c j) _ s
@[simp] theorem State.nodeLevels_agent_noticesLost (s : State) (n : NodeId) (v : Channel → Bool) (j : AgentId) :
    ((s.nodeLevels n v).agent j).noticesLost = (s.agent j).noticesLost :=
  foldl_keeps (fun t => (t.agent j).noticesLost) (State.nodeLevel n v) (fun t c => t.nodeLevel_agent_noticesLost n v c j) _ s
@[simp] theorem State.nodeLevels_agent_lastSent (s : State) (n : NodeId) (v : Channel → Bool) (j : AgentId) :
    ((s.nodeLevels n v).agent j).lastSent = (s.agent j).lastSent :=
  foldl_keeps (fun t => (t.agent j).lastSent) (State.nodeLevel n v) (fun t c => t.nodeLevel_agent_lastSent n v c j) _ s
@[simp] theorem State.nodeLevels_agent_reclaims (s : State) (n : NodeId) (v : Channel → Bool) (j : AgentId) :
    ((s.nodeLevels n v).agent j).reclaims = (s.agent j).reclaims :=
  foldl_keeps (fun t => (t.agent j).reclaims) (State.nodeLevel n v) (fun t c => t.nodeLevel_agent_reclaims n v c j) _ s

/-! ## Notices -/

@[simp] theorem Agent.putNotice_session (a : Agent) (n : Notice) : (a.putNotice n).session = a.session := by
  unfold Agent.putNotice
  split <;> rfl
@[simp] theorem Agent.putNotice_mask (a : Agent) (n : Notice) : (a.putNotice n).mask = a.mask := by
  unfold Agent.putNotice
  split <;> rfl
@[simp] theorem Agent.putNotice_serviceLimit (a : Agent) (n : Notice) : (a.putNotice n).serviceLimit = a.serviceLimit := by
  unfold Agent.putNotice
  split <;> rfl
@[simp] theorem Agent.putNotice_noticeFlag (a : Agent) (n : Notice) : (a.putNotice n).noticeFlag = a.noticeFlag := by
  unfold Agent.putNotice
  split <;> rfl
@[simp] theorem Agent.putNotice_claims (a : Agent) (n : Notice) : (a.putNotice n).claims = a.claims := by
  unfold Agent.putNotice
  split <;> rfl
@[simp] theorem Agent.putNotice_marks (a : Agent) (n : Notice) : (a.putNotice n).marks = a.marks := by
  unfold Agent.putNotice
  split <;> rfl
@[simp] theorem Agent.putNotice_alert (a : Agent) (n : Notice) : (a.putNotice n).alert = a.alert := by
  unfold Agent.putNotice
  split <;> rfl
@[simp] theorem Agent.putNotice_lastSent (a : Agent) (n : Notice) : (a.putNotice n).lastSent = a.lastSent := by
  unfold Agent.putNotice
  split <;> rfl
@[simp] theorem Agent.putNotice_reclaims (a : Agent) (n : Notice) : (a.putNotice n).reclaims = a.reclaims := by
  unfold Agent.putNotice
  split <;> rfl
@[simp] theorem State.notify_agent_session (s : State) (k : AgentId) (n : Notice) (j : AgentId) :
    ((s.notify k n).agent j).session = (s.agent j).session := by
  rw [State.agent_notify]
  split
  · rename_i h
    subst h
    split <;> simp
  · rfl
@[simp] theorem State.notifyFlagged_agent_session (s : State) (n : Notice) (j : AgentId) :
    ((s.notifyFlagged n).agent j).session = (s.agent j).session := by
  rw [State.agent_notifyFlagged]
  split <;> simp
@[simp] theorem State.notify_agent_mask (s : State) (k : AgentId) (n : Notice) (j : AgentId) :
    ((s.notify k n).agent j).mask = (s.agent j).mask := by
  rw [State.agent_notify]
  split
  · rename_i h
    subst h
    split <;> simp
  · rfl
@[simp] theorem State.notifyFlagged_agent_mask (s : State) (n : Notice) (j : AgentId) :
    ((s.notifyFlagged n).agent j).mask = (s.agent j).mask := by
  rw [State.agent_notifyFlagged]
  split <;> simp
@[simp] theorem State.notify_agent_serviceLimit (s : State) (k : AgentId) (n : Notice) (j : AgentId) :
    ((s.notify k n).agent j).serviceLimit = (s.agent j).serviceLimit := by
  rw [State.agent_notify]
  split
  · rename_i h
    subst h
    split <;> simp
  · rfl
@[simp] theorem State.notifyFlagged_agent_serviceLimit (s : State) (n : Notice) (j : AgentId) :
    ((s.notifyFlagged n).agent j).serviceLimit = (s.agent j).serviceLimit := by
  rw [State.agent_notifyFlagged]
  split <;> simp
@[simp] theorem State.notify_agent_noticeFlag (s : State) (k : AgentId) (n : Notice) (j : AgentId) :
    ((s.notify k n).agent j).noticeFlag = (s.agent j).noticeFlag := by
  rw [State.agent_notify]
  split
  · rename_i h
    subst h
    split <;> simp
  · rfl
@[simp] theorem State.notifyFlagged_agent_noticeFlag (s : State) (n : Notice) (j : AgentId) :
    ((s.notifyFlagged n).agent j).noticeFlag = (s.agent j).noticeFlag := by
  rw [State.agent_notifyFlagged]
  split <;> simp
@[simp] theorem State.notify_agent_claims (s : State) (k : AgentId) (n : Notice) (j : AgentId) :
    ((s.notify k n).agent j).claims = (s.agent j).claims := by
  rw [State.agent_notify]
  split
  · rename_i h
    subst h
    split <;> simp
  · rfl
@[simp] theorem State.notifyFlagged_agent_claims (s : State) (n : Notice) (j : AgentId) :
    ((s.notifyFlagged n).agent j).claims = (s.agent j).claims := by
  rw [State.agent_notifyFlagged]
  split <;> simp
@[simp] theorem State.notify_agent_marks (s : State) (k : AgentId) (n : Notice) (j : AgentId) :
    ((s.notify k n).agent j).marks = (s.agent j).marks := by
  rw [State.agent_notify]
  split
  · rename_i h
    subst h
    split <;> simp
  · rfl
@[simp] theorem State.notifyFlagged_agent_marks (s : State) (n : Notice) (j : AgentId) :
    ((s.notifyFlagged n).agent j).marks = (s.agent j).marks := by
  rw [State.agent_notifyFlagged]
  split <;> simp
@[simp] theorem State.notify_agent_alert (s : State) (k : AgentId) (n : Notice) (j : AgentId) :
    ((s.notify k n).agent j).alert = (s.agent j).alert := by
  rw [State.agent_notify]
  split
  · rename_i h
    subst h
    split <;> simp
  · rfl
@[simp] theorem State.notifyFlagged_agent_alert (s : State) (n : Notice) (j : AgentId) :
    ((s.notifyFlagged n).agent j).alert = (s.agent j).alert := by
  rw [State.agent_notifyFlagged]
  split <;> simp
@[simp] theorem State.notify_agent_lastSent (s : State) (k : AgentId) (n : Notice) (j : AgentId) :
    ((s.notify k n).agent j).lastSent = (s.agent j).lastSent := by
  rw [State.agent_notify]
  split
  · rename_i h
    subst h
    split <;> simp
  · rfl
@[simp] theorem State.notifyFlagged_agent_lastSent (s : State) (n : Notice) (j : AgentId) :
    ((s.notifyFlagged n).agent j).lastSent = (s.agent j).lastSent := by
  rw [State.agent_notifyFlagged]
  split <;> simp
@[simp] theorem State.notify_agent_reclaims (s : State) (k : AgentId) (n : Notice) (j : AgentId) :
    ((s.notify k n).agent j).reclaims = (s.agent j).reclaims := by
  rw [State.agent_notify]
  split
  · rename_i h
    subst h
    split <;> simp
  · rfl
@[simp] theorem State.notifyFlagged_agent_reclaims (s : State) (n : Notice) (j : AgentId) :
    ((s.notifyFlagged n).agent j).reclaims = (s.agent j).reclaims := by
  rw [State.agent_notifyFlagged]
  split <;> simp

/-- A notice keeps a list within 8, and sets the notices-lost flag only beside a full list (R84). -/
theorem Agent.putNotice_within (a : Agent) (n : Notice) (h : a.notices.length ≤ 8)
    (hl : a.noticesLost = true → a.notices.length = 8) :
    (a.putNotice n).notices.length ≤ 8 ∧
      ((a.putNotice n).noticesLost = true → (a.putNotice n).notices.length = 8) := by
  unfold Agent.putNotice
  split
  · rename_i hlt
    simp only [Config.maxNotices] at hlt
    refine ⟨by simp; omega, fun hn => ?_⟩
    have := hl hn
    omega
  · rename_i hlt
    simp only [Config.maxNotices] at hlt
    exact ⟨h, fun _ => by simp; omega⟩

/-! ## Wait list and slots -/

/-- A free slot takes the head of the wait list, or nothing happens (R100). -/
theorem State.slotTakes_cases (s : State) (j : SlotId) :
    (s.slotTakes j = s ∧ ((s.slots[j]).isSome = true ∨ s.waitList = [])) ∨
    ∃ n rest, s.slots[j] = none ∧ s.waitList = n :: rest ∧
      s.slotTakes j = { s.modNode n (fun r => { r with state := .resyncing, attempts := 0 }) with
        waitList := rest, slots := s.slots.set j (some { node := n, phase := .queryOwed }) } := by
  unfold State.slotTakes
  cases h : s.slots[j] with
  | some e => exact Or.inl ⟨rfl, Or.inl (by simp)⟩
  | none =>
    cases hw : s.waitList with
    | nil => exact Or.inl ⟨rfl, Or.inr rfl⟩
    | cons n rest => exact Or.inr ⟨n, rest, rfl, rfl, rfl⟩

/-- A law that one slot's taking keeps is kept by the filling of the slots (R100). -/
theorem State.fillSlots_keeps (P : State → Prop) (h : ∀ s j, P s → P (s.slotTakes j)) (s : State) (hs : P s) :
    P s.fillSlots := by
  have hl : ∀ (l : List SlotId) (t : State), P t → P (l.foldl State.slotTakes t) := by
    intro l
    induction l with
    | nil => exact fun t ht => ht
    | cons j l ih => exact fun t ht => ih _ (h t j ht)
  unfold State.fillSlots
  split
  · exact hl _ _ hs
  · exact hs

theorem State.mem_releaseNode_waitList (s : State) (n m : NodeId) :
    m ∈ (s.releaseNode n).waitList ↔ m ∈ s.waitList ∧ m ≠ n := by simp [State.releaseNode]

theorem State.slot_releaseNode (s : State) (n : NodeId) (j : SlotId) :
    (s.releaseNode n).slots[j] = (s.slots[j]).filter fun e => decide (e.node ≠ n) := by simp [State.releaseNode]

/-! ## Claims -/

theorem Agent.claimOn_some (a : Agent) (i : SourceIx) (c : Claim) (h : a.claimOn i = some c) :
    c ∈ a.claims ∧ c.source = i :=
  ⟨List.mem_of_find?_eq_some h, by simpa using List.find?_some h⟩

theorem Agent.claimOn_none (a : Agent) (i : SourceIx) : a.claimOn i = none ↔ ∀ c ∈ a.claims, c.source ≠ i := by
  simp [Agent.claimOn, List.find?_eq_none]

/-- A reclaim gives the source back what the grant consumed and leaves every other source (R42). -/
theorem State.source_reclaim (s : State) (k : AgentId) (c : Claim) (j : SourceIx) :
    (s.reclaim k c).source j = if c.source = j then (s.source j).map (Source.reclaim c.consumed) else s.source j := by
  rw [State.reclaim, State.source_changeSource]
  split
  · rename_i h
    subst h
    rfl
  · rfl

/-- A reclaim ends the holding (R42). -/
theorem Source.reclaim_not_held (a : Source) (c : Consumed) (k : AgentId) :
    (a.reclaim c).status ≠ .held k := by
  unfold Source.reclaim Source.complete Source.implied
  dsimp only
  generalize (if c.latched = true then _ else _ : Source).active = b
  cases b <;> simp

/-- A reclaim of a source its agent holds drops the claim and re-evaluates attention for every agent (R42, R59). -/
theorem State.agent_reclaim_held {s : State} {k : AgentId} {c : Claim} {a : Source} (h : s.source c.source = some a)
    (hk : a.status = .held k) (j : AgentId) :
    let b := if j = k then (s.agent k).dropClaim c.source else s.agent j
    (s.reclaim k c).agent j = { b with
      alert := b.alert || (b.attached && decide ((s.reclaim k c).attention j ≠ b.lastSent)) } := by
  intro b
  have hs : (s.modAgent k (Agent.dropClaim c.source)).source c.source = some a := h
  have hne : ¬ (Source.reclaim c.consumed a).status = a.status := by
    rw [hk]; exact Source.reclaim_not_held a c.consumed k
  have he : s.reclaim k c = ((s.modAgent k (Agent.dropClaim c.source)).setSource c.source
      (some (Source.reclaim c.consumed a))).reEvaluateAll := by
    unfold State.reclaim
    rw [State.changeSource_loaded _ hs, if_neg hne]
  rw [he, State.agent_reEvaluateAll, State.evaluated_eq, State.attention_reEvaluateAll]
  have hb : (((s.modAgent k (Agent.dropClaim c.source)).setSource c.source
      (some (Source.reclaim c.consumed a))).agent j) = b := by
    change (s.modAgent k (Agent.dropClaim c.source)).agent j = b
    rw [State.agent_modAgent]
    simp only [b, eq_comm]
  rw [hb]

/-- A reclaim takes the claim off its agent's list, and off no other (R71). -/
theorem State.claims_reclaim (s : State) (k : AgentId) (c : Claim) (j : AgentId) :
    ((s.reclaim k c).agent j).claims =
      if k = j then (s.agent j).claims.filter (fun d => decide (d.source ≠ c.source)) else (s.agent j).claims := by
  rw [State.reclaim, State.changeSource_agent_claims, State.agent_modAgent]
  split
  · rename_i h
    subst h
    rfl
  · rfl

/-- A grant makes the source HELD by the agent and changes no other (R40). -/
theorem State.source_grant (s : State) (k : AgentId) (i : SourceIx) (a : Source) (j : SourceIx) :
    (s.grant k i a).source j = if i = j then (s.source j).map (Source.grant k) else s.source j := by
  rw [State.grant, State.source_changeSource]
  split
  · rename_i h
    subst h
    rfl
  · rfl

/-- A grant puts its claim at the tail of the agent's list, and on no other (R72). -/
theorem State.claims_grant (s : State) (k : AgentId) (i : SourceIx) (a : Source) (j : AgentId) :
    ((s.grant k i a).agent j).claims =
      if k = j then (s.agent j).claims ++ [s.newClaim k i a] else (s.agent j).claims := by
  rw [State.grant, State.changeSource_agent_claims, State.agent_modAgent]
  split
  · rename_i h
    subst h
    simp [State.agent, Agent.dropMark]
  · simp [State.agent, Agent.dropMark]

/-- A grant removes every stale mark for the source (R74, R80). -/
theorem State.marks_grant (s : State) (k : AgentId) (i : SourceIx) (a : Source) (j : AgentId) :
    ((s.grant k i a).agent j).marks = (s.agent j).marks.filter fun m => decide (m ≠ i) := by
  rw [State.grant, State.changeSource_agent_marks, State.agent_modAgent]
  split
  · rename_i h
    subst h
    simp [State.agent, Agent.dropMark]
  · simp [State.agent, Agent.dropMark]

end Sys2Proof.Machine
end

