-- ==== Sys2Proof/Laws/PerInstr.lean ====
section
/-! SUPPORT. One law for every command, as syntax: it is well formed exactly when its operands name something the part
has. -/

namespace Sys2Proof.Laws

/-- The numbers below `n` are the values of `Fin n`. -/
theorem exists_fin_iff (n m : Nat) : (∃ j : Fin n, j.val = m) ↔ m < n :=
  ⟨fun ⟨j, h⟩ => h ▸ j.isLt, fun h => ⟨⟨m, h⟩, rfl⟩⟩

end Sys2Proof.Laws

namespace Sys2Proof.Laws.Operands

open Sys2Proof Sys2Proof.Machine

/-- The command is well formed exactly when it names a slot (R100), an agent (R63), a source index (R1) and a send
credit (R154) that exist; a command without such operands always is. -/
def Statement : Instr → Prop
  | .resyncWaitExpiry slot => Instr.wellFormed (.resyncWaitExpiry slot) = true ↔ ∃ j : SlotId, j.val = slot
  | .serviceTimerExpiry agent index => Instr.wellFormed (.serviceTimerExpiry agent index) = true ↔
      (∃ k : AgentId, k.val = agent) ∧ ∃ i : SourceIx, i.val = index
  | .readyReceived port count => Instr.wellFormed (.readyReceived port count) = true ↔ count ≤ Config.maxSendCredit
  | i => i.wellFormed = true

theorem join : Statement .join := rfl
theorem leave : Statement .leave := rfl
theorem setMask : Statement .setMask := rfl
theorem readAgent : Statement .readAgent := rfl
theorem claim : Statement .claim := rfl
theorem peek : Statement .peek := rfl
theorem done : Statement .done := rfl
theorem putPromotion : Statement .putPromotion := rfl
theorem clearPromotion : Statement .clearPromotion := rfl
theorem putSource : Statement .putSource := rfl
theorem dropSource : Statement .dropSource := rfl
theorem block : Statement .block := rfl
theorem unblock : Statement .unblock := rfl
theorem readSource : Statement .readSource := rfl
theorem force : Statement .force := rfl
theorem release : Statement .release := rfl
theorem putNode : Statement .putNode := rfl
theorem dropNode : Statement .dropNode := rfl
theorem readNode : Statement .readNode := rfl
theorem setContact : Statement .setContact := rfl
theorem setTiming : Statement .setTiming := rfl
theorem readPart : Statement .readPart := rfl
theorem resume : Statement .resume := rfl
theorem restart : Statement .restart := rfl
theorem undefinedRequestCode : Statement .undefinedRequestCode := rfl
theorem foreignFrame : Statement .foreignFrame := rfl
theorem trunkDataTaken : Statement .trunkDataTaken := rfl
theorem trunkDataPlaced : Statement .trunkDataPlaced := rfl
theorem evt : Statement .evt := rfl
theorem state : Statement .state := rfl
theorem fieldDataTaken : Statement .fieldDataTaken := rfl
theorem fieldDataPlaced : Statement .fieldDataPlaced := rfl
theorem strayFrame : Statement .strayFrame := rfl
theorem moveNotice : Statement .moveNotice := rfl
theorem placeSyncq : Statement .placeSyncq := rfl
theorem resyncWaitExpiry (slot : Nat) : Statement (.resyncWaitExpiry slot) := by
  simp only [Statement, Instr.wellFormed, decide_eq_true_eq, exists_fin_iff]
theorem serviceTimerExpiry (agent index : Nat) : Statement (.serviceTimerExpiry agent index) := by
  simp only [Statement, Instr.wellFormed, Bool.and_eq_true, decide_eq_true_eq, exists_fin_iff]
theorem sampleEvent (levels : BitVec 16) : Statement (.sampleEvent levels) := rfl
theorem trunkTransmitter : Statement .trunkTransmitter := rfl
theorem fieldTransmitter : Statement .fieldTransmitter := rfl
theorem frameTransmitted (port : PortId) (straps : BitVec 3) : Statement (.frameTransmitted port straps) := rfl
theorem frameReceived (port : PortId) (bytes : List Byte) : Statement (.frameReceived port bytes) := rfl
theorem readyReceived (port : PortId) (count : Nat) : Statement (.readyReceived port count) := by
  simp only [Statement, Instr.wellFormed, decide_eq_true_eq]
theorem creditReceived (port : PortId) : Statement (.creditReceived port) := rfl
theorem quietPhaseEnd (port : PortId) : Statement (.quietPhaseEnd port) := rfl
theorem readyFill (port : PortId) : Statement (.readyFill port) := rfl
theorem silenceTimeout (port : PortId) : Statement (.silenceTimeout port) := rfl
theorem warmReset : Statement .warmReset := rfl
theorem resetEnd (straps : BitVec 3) : Statement (.resetEnd straps) := rfl
theorem powerOn (straps : BitVec 3) (rstn : Bool) : Statement (.powerOn straps rstn) := rfl

end Sys2Proof.Laws.Operands
end

