-- ==== Sys2Proof/Laws/Requests.lean ====
section
/-! SUPPORT. What taking a request comes to: from the terms of the statements to the act of the owning block, and back
from an outcome to what was taken. -/

namespace Sys2Proof.Machine

open Sys2Proof

/-! ## Addresses -/

theorem stationOf_partAddr (v : BitVec 3) : stationOf (0xF0#8 + v.setWidth 8) = none := by
  revert v
  decide

theorem agentOf_agentStation (k : AgentId) : agentOf (agentStation k) = some k := by
  revert k
  decide

theorem agentStation_eq (k : AgentId) : agentStation k = 0xE0#8 + BitVec.ofNat 8 k.val := rfl

theorem State.partAddr_eq (s : State) : s.partAddr = 0xF0#8 + s.straps.setWidth 8 := rfl

theorem stationOf_node (n : NodeId) (h : n ≠ 0) : stationOf (byteOf n.val) = some n := by
  revert n
  decide

/-! ## Bytes and values -/

theorem below_byteOf {n : Nat} (hn : n ≤ 256) (x : Fin n) : below n (byteOf x.val) = some x := by
  have hx : (byteOf x.val).toNat = x.val := by
    simp only [byteOf, BitVec.toNat_ofNat]
    omega
  simp [below, hx]

theorem below_none {n : Nat} (b : Byte) (h : n ≤ b.toNat) : below n b = none := by
  simp [below, Nat.not_lt.2 h]

theorem indexOf_byteOf (i : SourceIx) : indexOf (byteOf i.val) = i := by
  apply Fin.ext
  simp only [indexOf, byteOf, BitVec.toNat_ofNat]
  omega

@[simp] theorem flagOf_flagByte (b : Bool) : flagOf (flagByte b) = some b := by cases b <;> rfl

theorem flagOf_none (b : Byte) (h : 1 < b.toNat) : flagOf b = none := by
  unfold flagOf
  split
  · subst b
    simp at h
  · split
    · subst b
      simp at h
    · rfl

@[simp] theorem classOf_byte (c : SourceClass) : classOf c.byte = some c := by cases c <;> rfl

@[simp] theorem triggerOf_byte (t : Trigger) : triggerOf t.byte = some t := by cases t <;> rfl

@[simp] theorem halfOf_halfBytes (h : Half) : halfOf (h.extractLsb' 8 8) (h.extractLsb' 0 8) = h := by
  unfold halfOf
  apply BitVec.eq_of_getLsbD_eq
  intro i hi
  rw [BitVec.getLsbD_append]
  rcases Nat.lt_or_ge i 8 with h8 | h8
  · simp [h8]
  · have h9 : i - 8 < 8 := by omega
    have e : 8 + (i - 8) = i := by omega
    simp [Nat.not_lt.2 h8, h9, e]

theorem rankOf_byteOf (r : Rank) (h : r ≠ 0) : rankOf (byteOf r.val) = some r := by
  simp [rankOf, below_byteOf (by omega : 8 ≤ 256), h]

theorem routeOf_setWidth (r : BitVec 4) : routeOf (r.setWidth 8) = some r := by
  revert r
  decide

/-! ## Taking a request -/

theorem State.trunkHead_of_takes {s : State} {f : Frame} (h : s.Takes f) : s.trunkHead = some f := by
  obtain ⟨hu, hr, hh, hf⟩ := h
  have hp : s.restartPending = false := by
    simp only [State.restartPending, List.any_eq_false]
    intro e he
    simp [hr e he]
  simp [State.trunkHead, State.processorFree, hu, hp, hh, hf]

theorem State.requestHead_of_asks {s : State} {f : Frame} {k : AgentId} (h : s.Asks f k) :
    s.requestHead = some (f, k) := by
  obtain ⟨ht, hd, hk, ho, hq⟩ := h
  have hc : s.classify f = .request k := by
    unfold State.classify
    rw [hd, stationOf_partAddr]
    simp [State.partAddr_eq, hk, ho, ← agentStation_eq, agentOf_agentStation, Config.kindReq]
  unfold State.requestHead
  rw [State.trunkHead_of_takes ht]
  simp [hc, Config.replyThreshold, hq]

theorem serve_of_asks {s : State} {f : Frame} {k : AgentId} (h : s.Asks f k) (c : ReqCode)
    (own : AgentId → List Byte → State → State × Reply) (hc : f.payload.head? = some c.byte) :
    serve c own s = .next (s.carryOut c own f k) := by
  unfold serve
  rw [State.requestHead_of_asks h]
  simp [hc]

/-- A request that passes the common checks: the owning block acts, and its reply is placed. -/
theorem serve_of_passed {s : State} {f : Frame} {k : AgentId} (h : s.Asks f k) (c : ReqCode)
    (own : AgentId → List Byte → State → State × Reply) (args : List Byte) (hp : f.payload = c.byte :: args)
    (hk : s.commonCheck c k args = none) :
    serve c own s = .next ((own k args s).1.answer f (own k args s).2) := by
  rw [serve_of_asks h c own (by simp [hp])]
  simp [State.carryOut, hp, hk]

/-- A request that a common check refuses. -/
theorem serve_of_failed {s : State} {f : Frame} {k : AgentId} (h : s.Asks f k) (c : ReqCode)
    (own : AgentId → List Byte → State → State × Reply) (args : List Byte) (hp : f.payload = c.byte :: args)
    (st : ReplyStatus) (hk : s.commonCheck c k args = some st) :
    serve c own s = .next (s.answer f (Reply.bare st)) := by
  rw [serve_of_asks h c own (by simp [hp])]
  simp [State.carryOut, hp, hk]

/-- What a request row can answer: nothing was taken; or a common check refused; or the owning block acted. -/
theorem serve_next {c : ReqCode} {own : AgentId → List Byte → State → State × Reply} {s t : State}
    (h : serve c own s = .next t) :
    t = s ∨ ∃ f k, s.requestHead = some (f, k) ∧ f.payload.head? = some c.byte ∧
      ((∃ st, t = s.answer f (Reply.bare st)) ∨
        (s.commonCheck c k f.payload.tail = none ∧
          t = (own k f.payload.tail s).1.answer f (own k f.payload.tail s).2)) := by
  unfold serve at h
  split at h
  · rename_i f k hr
    split at h
    · rename_i hc
      refine Or.inr ⟨f, k, hr, hc, ?_⟩
      simp only [Host.Outcome.next.injEq] at h
      unfold State.carryOut at h
      split at h
      · exact Or.inl ⟨_, h.symm⟩
      · rename_i hk
        exact Or.inr ⟨hk, h.symm⟩
    · exact Or.inl (by simpa using h.symm)
  · exact Or.inl (by simpa using h.symm)

/-- A request head stands when the processor may take it and the queue has room (R126, R129). -/
theorem State.requestHead_some {s : State} {f : Frame} {k : AgentId} (h : s.requestHead = some (f, k)) :
    s.trunk.link = .up ∧ s.restartPending = false ∧ s.trunk.hold = false ∧ s.trunk.rx.head? = some f ∧
      s.classify f = .request k ∧ s.trunk.queue.length < 28 := by
  unfold State.requestHead at h
  split at h
  · simp at h
  · rename_i g hg
    unfold State.trunkHead State.processorFree at hg
    split at hg
    · rename_i hp
      simp only [Bool.and_eq_true, decide_eq_true_eq, Bool.not_eq_true'] at hp
      split at h
      · rename_i j hj
        split at h
        · rename_i hq
          simp only [Option.some.injEq, Prod.mk.injEq] at h
          obtain ⟨rfl, rfl⟩ := h
          exact ⟨hp.1.1, hp.1.2, hp.2, hg, hj, hq⟩
        · simp at h
      · simp at h
      · simp at h
    · simp at hg

/-- The common checks pass exactly when all four of Table 7-2 do. -/
theorem State.commonCheck_none (s : State) (c : ReqCode) (k : AgentId) (args : List Byte) :
    s.commonCheck c k args = none ↔ c.wellFormed args = true ∧
      (c.needsSession = true → (s.agent k).attached = true) ∧ (c.needsRole args = true → s.role = some k) ∧
      ∀ m, c.needsMode = some m → s.mode = m := by
  unfold State.commonCheck
  cases hw : c.wellFormed args <;> cases hs : c.needsSession <;> cases hr : c.needsRole args <;>
    cases ha : (s.agent k).attached <;> cases hm : c.needsMode <;> by_cases hk : s.role = some k <;>
    simp [hk]

theorem Agent.attached_iff (a : Agent) : a.attached = true ↔ a.session = .attached := by simp [Agent.attached]

theorem Agent.not_attached_iff (a : Agent) : a.attached = false ↔ a.session = .detached := by
  cases h : a.session <;> simp [Agent.attached, h]

end Sys2Proof.Machine
end

