-- ==== Sys2Proof/Laws/Readings.lean ====
section
/-! SUPPORT. What the bytes, addresses and orders the model reads come to, in the terms of the statements. -/

namespace Sys2Proof.Machine

open Sys2Proof

/-! ## Bytes -/

theorem halfBytes_halfOf (hi lo : Byte) : halfBytes (halfOf hi lo) = [hi, lo] := by
  unfold halfBytes halfOf
  congr 1
  · apply BitVec.eq_of_getLsbD_eq
    intro i h
    rw [BitVec.getLsbD_extractLsb', BitVec.getLsbD_append]
    have h8 : ¬ 8 + i < 8 := by omega
    have e : 8 + i - 8 = i := by omega
    simp [h, h8, e]
  · congr 1
    apply BitVec.eq_of_getLsbD_eq
    intro i h
    rw [BitVec.getLsbD_extractLsb', BitVec.getLsbD_append]
    simp [h]

theorem halfOf_getLsbD (hi lo : Byte) (c : Channel) :
    (halfOf hi lo).getLsbD c.val = if c.val < 8 then lo.getLsbD c.val else hi.getLsbD (c.val - 8) := by
  unfold halfOf
  rw [BitVec.getLsbD_append]

theorem below_val {n : Nat} {b : Byte} {x : Fin n} (h : below n b = some x) : x.val = b.toNat := by
  unfold below at h
  split at h
  · simp only [Option.some.injEq] at h
    rw [← h]
  · simp at h

theorem sourceArgs_sourceBytes (i : SourceIx) (g : SourceConfig) (h : g.rank ≠ 0) :
    sourceArgs (sourceBytes i g) = some (i, g) := by
  have h1 := below_byteOf (by omega : 64 ≤ 256) g.node
  have h2 := below_byteOf (by omega : 16 ≤ 256) g.channel
  have h3 := below_byteOf (by omega : 16 ≤ 256) g.order
  simp [sourceArgs, sourceBytes, h1, h2, h3, rankOf_byteOf _ h, routeOf_setWidth, indexOf_byteOf]

/-- Another index holds the key (R8 step 3). -/
theorem State.keyElsewhere_eq_false (s : State) (i : SourceIx) (g : SourceConfig) :
    s.keyElsewhere i g = false ↔ ∀ j : SourceIx, j ≠ i → ∀ b ∈ s.source j,
      ¬ (b.config.node = g.node ∧ b.config.channel = g.channel) := by
  simp only [State.keyElsewhere, List.any_eq_false, decide_eq_true_eq, Prod.forall]
  constructor
  · intro h j hj b hb hc
    exact h j b ((s.mem_loaded j b).2 (by simpa using hb)) ⟨hj, hc⟩
  · intro h j b hm ⟨hj, hc⟩
    exact h j hj b (by simpa using (s.mem_loaded j b).1 hm) hc

/-! ## Addresses -/

theorem stationOf_eq_none (b : Byte) : stationOf b = none ↔ ¬ (1 ≤ b.toNat ∧ b.toNat ≤ 63) := by
  unfold stationOf
  split
  · split <;> simp <;> omega
  · simp
    omega

theorem agentOf_isSome (b : Byte) : (agentOf b).isSome = true ↔ 0xE0 ≤ b.toNat ∧ b.toNat ≤ 0xE3 := by
  revert b
  decide +kernel

theorem State.fieldNode_byteOf {s : State} {n : NodeId} {r : Node} (hn : n ≠ 0) (hr : s.node n = some r) :
    s.fieldNode (byteOf n.val) = some n := by simp [State.fieldNode, stationOf_node n hn, Option.filter, hr]

theorem State.fieldNode_eq_none {s : State} {b : Byte}
    (h : ∀ n : NodeId, n ≠ 0 → b = byteOf n.val → s.node n = none) : s.fieldNode b = none := by
  unfold State.fieldNode stationOf
  split
  · rename_i hb
    split
    · rfl
    · rename_i h0
      have h1 : (⟨b.toNat, hb⟩ : NodeId) ≠ 0 := fun hh => h0 (by simpa using congrArg Fin.val hh)
      simp [Option.filter, h ⟨b.toNat, hb⟩ h1 (by simp [byteOf])]
  · rfl

/-! ## What the request processor and the field intake take -/

/-- A request that meets the common checks is answered by its owning block (R129, R130). -/
theorem serve_of_sends {s : State} {f : Frame} {k : AgentId} (c : ReqCode)
    (own : AgentId → List Byte → State → State × Reply) (args : List Byte) (h : s.Sends f k (c.byte :: args))
    (hw : c.wellFormed args = true) (hj : c.needsSession = true → s.Joined k)
    (hr : c.needsRole args = true → s.role = some k) (hm : ∀ m, c.needsMode = some m → s.mode = m) :
    serve c own s = .next ((own k args s).1.answer f (own k args s).2) :=
  serve_of_passed h.1 c own args h.2
    ((s.commonCheck_none c k args).2 ⟨hw, fun e => (Agent.attached_iff _).2 (hj e), hr, hm⟩)

theorem State.fieldHead_of_intakes {s : State} {f : Frame} (h : s.Intakes f) : s.fieldHead f.kind = some f := by
  obtain ⟨h1, h2, h3, h4⟩ := h
  simp [State.fieldHead, State.intakeFree, h1, h2, h3, h4, Option.filter]

theorem Line.inHand_of_hold {l : Line} {f : Frame} (hh : l.hold = true) (hf : l.rx.head? = some f) :
    l.inHand = some f := by simp [Line.inHand, hh, hf]

theorem Line.inHand_eq_none {l : Line} (h : l.hold = false ∨ l.rx = []) : l.inHand = none := by
  rcases h with h | h <;> simp [Line.inHand, h]

/-! ## The order of sources -/

theorem orderFirst_iff (p q : SourceIx × Source) : orderFirst p q = true ↔
    (q.2.config.order < p.2.config.order ∨ (q.2.config.order = p.2.config.order ∧ p.1 < q.1)) := by
  unfold orderFirst
  split
  · rename_i h
    simp [h]
  · rename_i h
    simp only [decide_eq_true_eq]
    refine ⟨Or.inl, ?_⟩
    rintro (h1 | ⟨h1, _⟩)
    · exact h1
    · exact absurd h1.symm h

/-- The order the model compares by is that of R49. -/
theorem State.before_iff (s : State) (p q : SourceIx × Source) :
    s.before p q = true ↔ s.Precedes p.1 p.2 q.1 q.2 := by
  unfold State.before State.Precedes
  split
  · rename_i h
    cases h1 : s.promoSlot p.1 <;> cases h2 : s.promoSlot q.1
    · simp [State.place, h1, h2, h, orderFirst_iff]
    · rename_i n
      have := n.isLt
      simp only [State.place, h1, h2, h]
      simp
      omega
    · rename_i m
      have := m.isLt
      simp only [State.place, h1, h2, h]
      simp
    · rename_i m n
      by_cases hmn : m = n
      · simp [State.place, h1, h2, h, hmn, orderFirst_iff]
      · have : m.val ≠ n.val := fun hh => hmn (Fin.ext hh)
        simp [State.place, h1, h2, h, hmn, this]
  · rename_i h
    simp only [decide_eq_true_eq]
    refine ⟨Or.inl, ?_⟩
    rintro (h1 | ⟨h1, _⟩)
    · exact h1
    · exact absurd h1.symm h

theorem State.precedes_asymm {s : State} {i j : SourceIx} {a b : Source} (h : s.Precedes i a j b) :
    ¬ s.Precedes j b i a := by
  simp only [State.Precedes, Fin.lt_def, Fin.ext_iff] at *
  omega

theorem State.precedes_trans {s : State} {i j k : SourceIx} {a b c : Source} (h : s.Precedes i a j b)
    (g : s.Precedes j b k c) : s.Precedes i a k c := by
  simp only [State.Precedes, Fin.lt_def, Fin.ext_iff] at *
  omega

theorem State.precedes_total (s : State) {i j : SourceIx} (a b : Source) (h : i ≠ j) :
    s.Precedes i a j b ∨ s.Precedes j b i a := by
  have h : i.val ≠ j.val := fun e => h (Fin.ext e)
  simp only [State.Precedes, Fin.lt_def, Fin.ext_iff] at *
  omega

/-- No index is loaded twice in the list of loaded sources. -/
theorem State.loaded_nodup (s : State) : (s.loaded.map Prod.fst).Nodup := by
  have key : ∀ (l : List SourceIx) (v : List (Option Source)), l.Nodup →
      (((l.zip v).filterMap fun p => p.2.map (Prod.mk p.1)).map Prod.fst).Sublist l := by
    intro l
    induction l with
    | nil => intro v _; simp
    | cons a l ih =>
      intro v h
      cases v with
      | nil => simp
      | cons o v =>
        have := ih v (List.nodup_cons.1 h).2
        cases o with
        | none => exact List.Sublist.cons _ this
        | some b => exact List.Sublist.cons_cons _ this
  exact (List.nodup_finRange 256).sublist (key _ _ (List.nodup_finRange 256))

/-! ## Alerts -/

/-- The first agent of the list has no alert to serve, or is served (R88, R163). -/
theorem State.serveAlerts_cons (s : State) (k : AgentId) (ks : List AgentId) : s.serveAlerts (k :: ks) =
    if (s.agent k).alert = true then
      if s.attention k = (s.agent k).lastSent then (s.modAgent k fun a => { a with alert := false }).serveAlerts ks
      else
        (s.modAgent k fun a => { a with alert := false, lastSent := s.attention k },
          some (s.build (agentStation k) Config.kindAlert 0#8 [byteOf (s.attention k).val]))
    else s.serveAlerts ks := rfl

/-! ## Reclaimed claims -/

@[simp] theorem State.agent_reclaimed (s : State) (k : AgentId) (m : Nat) (j : AgentId) :
    (s.reclaimed k m).agent j = s.agent j := by simp only [State.reclaimed, State.agent]

@[simp] theorem State.reclaimed_promotion (s : State) (k : AgentId) (m : Nat) :
    (s.reclaimed k m).promotion = s.promotion := by simp only [State.reclaimed]

theorem State.source_reclaimed (s : State) (k : AgentId) (m : Nat) (i : SourceIx) :
    (s.reclaimed k m).source i = (s.source i).map fun a =>
      match ((s.agent k).claims.take m).find? fun c => decide (c.source = i) with
      | some c => a.reclaim c.consumed
      | none => a := by
  unfold State.reclaimed State.source
  exact Vector.getElem_ofFn _

end Sys2Proof.Machine
end

