-- ==== Sys2Proof/Tests/Slice0.lean ====
section
/-! SUPPORT. Tests on small states, and for every statement with hypotheses states that meet them
(test_hyp_<statement>, with a witness for each clause). -/

namespace Sys2Proof.Tests

open Sys2Proof Sys2Proof.Machine

set_option Elab.async false

/-! ## A small state -/

/-- A frame of a request of agent `k` to the part at strap value 0. -/
def ask (k : AgentId) (p : List Byte) : Frame := Frame.sealed 0xF0#8 (agentStation k) 0x10#8 0x07#8 p

/-- A frame of a field node to the part at strap value 0. -/
def report (n : NodeId) (kind : Byte) (p : List Byte) : Frame := Frame.sealed 0xF0#8 (byteOf n.val) kind 0x00#8 p

/-- A trunk DATA frame of agent 0. -/
def data (dest : Byte) : Frame := Frame.sealed dest 0xE0#8 0x01#8 0x00#8 [1#8, 2#8]

def openLine : Line := { Line.afterReset with link := .up, sendCredit := 5, creditGiven := 7 }

def levelConfig : SourceConfig :=
  { node := 1, channel := 0, cls := .level, trigger := .rising, rank := 3, order := 0, route := 0b0001#4, blocked := false }

/-- A LEVEL source of node 1, PENDING because it is asserted. -/
def level5 : Source :=
  { config := levelConfig, status := .pending, uncertain := false, merge := 0#8,
    reasons := { edgeOwed := false, latched := false, asserted := true, forced := false } }

/-- An EDGE source of node 1, HELD by agent 0. -/
def held6 : Source :=
  { config := { levelConfig with channel := 1, cls := .edge, rank := 7 }, status := .held 0, uncertain := false,
    merge := 0#8, reasons := { edgeOwed := false, latched := false, asserted := true, forced := false } }

/-- An EDGE source of node 1, PENDING because it is edge-owed. -/
def edge7 : Source :=
  { config := { levelConfig with channel := 2, cls := .edge, trigger := .both, rank := 2 }, status := .pending,
    uncertain := false, merge := 3#8,
    reasons := { edgeOwed := true, latched := false, asserted := false, forced := false } }

/-- An IDLE LEVEL source of node 0. -/
def idle8 : Source :=
  { config := { levelConfig with node := 0 }, status := .idle, uncertain := false, merge := 0#8,
    reasons := { edgeOwed := false, latched := false, asserted := false, forced := false } }

def claim6 : Claim :=
  { source := 6, consumed := { edgeOwed := true, latched := false }, grant := 0#16, deadline := some 50#16 }

def agent0 : Agent :=
  { Agent.afterReset with
    session := .attached, serviceLimit := 50#16, noticeFlag := true, claims := [claim6], marks := [9],
    notices := [.fieldUp], lastSent := 3 }

/-- RUN, both ports UP, agent 0 attached with the role, node 1 SYNCED, node 3 RESYNCING in slot 0, node 4 LOST, sources
5 to 8, contact input 0 SETTLED, and MOVE_NOTICE waiting. -/
def base : State :=
  { State.reset with
    pending := [.moveNotice]
    mode := .run
    role := some 0
    agents := State.reset.agents.set 0 agent0
    grantNumber := 1#16
    nodes := ((State.reset.nodes.set 1 (some Node.contactBlock)).set 3
      (some { Node.contactBlock with state := .resyncing, attempts := 1 })).set 4
      (some { Node.contactBlock with state := .lost, wasLost := true })
    slots := State.reset.slots.set 0 (some { node := 3, phase := .waiting 10 })
    sources := (((State.reset.sources.set 5 (some level5)).set 6 (some held6)).set 7 (some edge7)).set 8 (some idle8)
    contacts := State.reset.contacts.set 0 { invert := false, length := 2, filter := .settled false 1 }
    trunk := openLine
    field := openLine
    pins := { cin := 0#16, straps := 0#3, rstn := true } }

/-- The same with a request of agent `k` as the oldest trunk frame. -/
def asked (k : AgentId) (p : List Byte) : State := { base with trunk := { openLine with rx := [ask k p] } }

/-- The same with a frame as the oldest trunk frame. -/
def arrived (f : Frame) : State := { base with trunk := { openLine with rx := [f] } }

/-- The same with a frame as the oldest field frame. -/
def reported (f : Frame) : State := { base with field := { openLine with rx := [f] } }

/-- The request stands as the statements ask. -/
abbrev Given (k : AgentId) (p : List Byte) : Prop := (asked k p).Sends (ask k p) k p

/-- The same, from the holder of the role. -/
abbrev Managed (p : List Byte) : Prop := Given 0 p ∧ (asked 0 p).Manages 0

/-! ## WellFormed -/

theorem test_wellformed_slot : Instr.wellFormed (.resyncWaitExpiry 3) = true ∧
    Instr.wellFormed (.resyncWaitExpiry 4) = false ∧ exec (.resyncWaitExpiry 4) base = .refused .noSuchOperand :=
  ⟨rfl, rfl, rfl⟩
theorem test_wellformed_agent : Instr.wellFormed (.serviceTimerExpiry 3 255) = true ∧
    Instr.wellFormed (.serviceTimerExpiry 4 0) = false ∧
    exec (.serviceTimerExpiry 4 0) base = .refused .noSuchOperand := ⟨rfl, rfl, rfl⟩
theorem test_wellformed_index : Instr.wellFormed (.serviceTimerExpiry 0 256) = false ∧
    exec (.serviceTimerExpiry 0 256) base = .refused .noSuchOperand := ⟨rfl, rfl⟩
theorem test_wellformed_count : Instr.wellFormed (.readyReceived .trunk 15) = true ∧
    Instr.wellFormed (.readyReceived .field 16) = false ∧
    exec (.readyReceived .field 16) base = .refused .noSuchOperand := ⟨rfl, rfl, rfl⟩

/-! ## The laws hold at the small state, which answers a next state -/

/-- The sources of the small state. -/
def loaded : List (SourceIx × Source) := [(5, level5), (6, held6), (7, edge7), (8, idle8)]

theorem test_sources : ∀ j : SourceIx, ∀ b ∈ base.source j, (j, b) ∈ loaded := by decide +kernel

/-- What holds of the four sources holds of every loaded source. -/
theorem all_sources (P : SourceIx → Source → Prop) (h : ∀ p ∈ loaded, P p.1 p.2) (j : SourceIx) (b : Source)
    (hb : base.source j = some b) : P j b := h (j, b) (test_sources j b hb)

theorem test_keyLaw : base.KeyLaw :=
  ⟨fun i a ha j b hb => all_sources
      (fun i a => a.config.node = b.config.node → a.config.channel = b.config.channel → i = j)
      (all_sources (fun j b => ∀ p ∈ loaded, p.2.config.node = b.config.node → p.2.config.channel = b.config.channel →
        p.1 = j) (by decide +kernel) j b hb) i a ha,
    all_sources (fun _ a => (base.node a.config.node).isSome = true) (by decide +kernel)⟩

theorem test_rankLaw : base.RankLaw := all_sources _ (by decide +kernel)

theorem test_pendingLaw : base.PendingLaw := all_sources
  (fun _ a => (a.status = .pending → a.active = true) ∧ (a.status = .idle → a.active = false)) (by decide +kernel)

theorem test_reasonLaw : base.ReasonLaw := by
  refine ⟨all_sources (fun _ a => (a.reasons.latched = true → a.config.cls = .level) ∧
    (a.reasons.edgeOwed = true → a.config.cls = .edge)) (by decide +kernel), ?_⟩
  decide +kernel

theorem test_claimLaw : base.ClaimLaw := by
  refine ⟨fun i k => ⟨?_, ?_⟩, by decide +kernel⟩
  · rintro ⟨a, ha, hs⟩
    exact all_sources (fun i a => ∀ k : AgentId, a.status = .held k → ∃ c ∈ (base.agent k).claims, c.source = i)
      (by decide +kernel) i a ha k hs
  · rintro ⟨c, hc, rfl⟩
    have h : ∀ k : AgentId, ∀ c ∈ (base.agent k).claims, ∃ a ∈ base.source c.source, a.status = .held k := by
      decide +kernel
    exact h k c hc

theorem test_uncertainLaw : base.UncertainLaw := all_sources
  (fun _ a => ∀ r ∈ base.node a.config.node, (a.uncertain = true ↔ r.state ≠ .synced)) (by decide +kernel)

theorem test_promotionLaw_roleLaw : base.PromotionLaw ∧ base.RoleLaw := by
  unfold State.PromotionLaw State.RoleLaw
  decide +kernel
theorem test_detachedLaw_listLaw : base.DetachedLaw ∧ base.ListLaw := by
  unfold State.DetachedLaw State.ListLaw
  decide +kernel
theorem test_alertLaw_nodeZeroLaw : base.AlertLaw ∧ base.NodeZeroLaw := by
  unfold State.AlertLaw State.NodeZeroLaw
  decide +kernel
theorem test_waitLaw : base.WaitLaw := by
  unfold State.WaitLaw
  decide +kernel
theorem test_slotsBusyLaw_retainedLaw : base.SlotsBusyLaw ∧ base.RetainedLaw := by
  unfold State.SlotsBusyLaw State.RetainedLaw
  decide +kernel
theorem test_standbyLaw_timingLaw : base.StandbyLaw ∧ base.TimingLaw := by
  unfold State.StandbyLaw State.TimingLaw
  decide +kernel
theorem test_queueLaw_restartLaw_portLaw : base.QueueLaw ∧ base.RestartLaw ∧ base.PortLaw := by
  unfold State.QueueLaw State.RestartLaw State.PortLaw Line.Law
  decide +kernel
theorem test_contactLaw : base.ContactLaw := by
  intro n
  fin_cases n
  · exact (by decide : 1 ≤ 2)
  all_goals exact True.intro

/-- The hypotheses of the statements that a law is kept by every step, with the laws above. -/
theorem test_hyp_KeptByStep : ∃ t : State, step base = .next t := ⟨_, rfl⟩

/-! ## The hypotheses of the statements -/

theorem test_hyp_StepRunsFrontCommand : base.pending = .moveNotice :: [] ∧ State.reset.pending = [] := ⟨rfl, rfl⟩

theorem test_hyp_CommandsAnswer : (∃ t : State, exec .warmReset base = .next t) ∧
    Instr.wellFormed .warmReset = true ∧ Instr.wellFormed (.resyncWaitExpiry 4) = false := ⟨⟨_, rfl⟩, rfl, rfl⟩

theorem test_hyp_CodesAndCounters : ReqCode.join ≠ .readNode ∧ ReqCode.join ≠ .readPart := by decide

theorem test_hyp_BuffersAndReplies : openLine.link = .up ∧
    ({ openLine with link := .announcing } : Line).link = .announcing ∧ (asked 0 [5#8, 1#8, 7#8]).trunk.link = .up ∧
    (ask 0 [5#8, 1#8, 7#8]).payload = 5#8 :: [1#8, 7#8] := by decide +kernel

/-- One request for each common check: the length, the clear option, the session, the role, the mode; an undefined
code at both ends of its range, and none. -/
theorem test_hyp_CommonChecksDecide :
    (Given 0 (ReqCode.claim.byte :: [1#8]) ∧ ¬ ([1#8].length + 1 = ReqCode.claim.len)) ∧
    (Given 0 (ReqCode.readPart.byte :: [2#8]) ∧ ReqCode.readPart.clearOption [2#8] = some 2#8) ∧
    (Given 1 (ReqCode.leave.byte :: []) ∧ ¬ (asked 1 [2#8]).Joined 1) ∧
    (Given 0 (ReqCode.block.byte :: [5#8]) ∧
      ¬ ({ asked 0 [0x0C#8, 5#8] with role := none } : State).role = some 0) ∧
    (Given 0 (ReqCode.resume.byte :: []) ∧ (asked 0 [0x17#8]).Manages 0 ∧ (asked 0 [0x17#8]).mode ≠ .standby) ∧
    Given 0 [0x00#8] ∧ Given 0 [0x19#8] ∧ Given 0 [0xFF#8, 0#8] ∧ Given 0 [] := by
  repeat' apply And.intro
  all_goals decide +kernel

theorem test_hyp_RequestsWait :
    State.reset.trunk.link ≠ .up ∧
    (∃ e ∈ ({ base with trunk := openLine.place (ask 0 []) true } : State).trunk.queue, e.restart = true) ∧
    ({ openLine with hold := true } : Line).hold = true ∧ base.trunk.rx = [] ∧
    28 ≤ ({ openLine with queue := List.replicate 28 { frame := ask 0 [], restart := false } } : Line).queue.length ∧
    (asked 0 [5#8, 1#8, 7#8]).Asks (ask 0 [5#8, 1#8, 7#8]) 0 ∧
    (ask 0 [5#8, 1#8, 7#8]).payload.head? ≠ some ReqCode.peek.byte ∧
    (ask 0 [5#8, 1#8, 7#8]).payload.head? = some ReqCode.claim.byte ∧
    (asked 0 []).Takes (ask 0 []) ∧ 63 < (ask 0 []).dest.toNat ∧
    (arrived (Frame.sealed 0#8 0xE0#8 1#8 0#8 [])).Takes (Frame.sealed 0#8 0xE0#8 1#8 0#8 []) ∧
    (arrived (Frame.sealed 63#8 0xE0#8 2#8 0#8 [])).Takes (Frame.sealed 63#8 0xE0#8 2#8 0#8 []) ∧
    (data 64#8).dest ≠ 0xF0#8 ∧ (arrived (data 64#8)).Takes (data 64#8) ∧
    (arrived (Frame.sealed 0xF0#8 0xE0#8 0x11#8 0#8 [])).Takes (Frame.sealed 0xF0#8 0xE0#8 0x11#8 0#8 []) ∧
    (arrived (Frame.sealed 0xF0#8 0xDF#8 0x10#8 0#8 [])).Takes (Frame.sealed 0xF0#8 0xDF#8 0x10#8 0#8 []) ∧
    (arrived (Frame.sealed 0xF0#8 0xE4#8 0x10#8 0#8 [])).Takes (Frame.sealed 0xF0#8 0xE4#8 0x10#8 0#8 []) := by
  decide +kernel

theorem test_hyp_StatusesAndRefusals : (asked 0 [2#8]).Asks (ask 0 [2#8]) 0 ∧
    (ask 0 [2#8]).payload.head? = some ReqCode.leave.byte := by decide +kernel

theorem test_hyp_AttentionRank : (base.agent 1).session = .detached ∧ (base.agent 0).session = .attached ∧
    base.Counts 0 5 level5 ∧ base.attention 0 ≠ 0 := by decide +kernel

theorem test_hyp_ReEvaluation : base.source 9 = none ∧ base.source 5 = some level5 ∧
    (level5.setForced true).status = level5.status ∧ (level5.takeLevel false).status ≠ level5.status := by
  decide +kernel

theorem test_hyp_TransitionTable : edge7.config.cls = .edge ∧ level5.config.cls = .level ∧ held6.status = .held 0 ∧
    level5.isHeld = false := by decide

theorem test_hyp_SourceEvents : level5.config.cls = .level ∧ edge7.config.cls = .edge := by decide

theorem test_hyp_JoinAttaches :
    (Given 1 (0x01#8 :: byteOf (7 : Rank).val :: halfBytes 60000#16 ++ [flagByte true, flagByte true]) ∧
      (asked 1 [1#8, 7#8, 0xEA#8, 0x60#8, 1#8, 1#8]).Sends (ask 1 [1#8, 7#8, 0xEA#8, 0x60#8, 1#8, 1#8]) 1
        [1#8, 7#8, 0xEA#8, 0x60#8, 1#8, 1#8] ∧
      (base.agent 1).session = .detached ∧ (60000#16).toNat ≤ 60000) ∧
    (Given 0 [1#8, 0#8, 0#8, 0#8, 0#8, 0#8] ∧ base.Joined 0) ∧
    Given 1 [1#8, 8#8, 0#8, 0#8, 0#8, 0#8] ∧ Given 1 [1#8, 0#8, 0xEA#8, 0x61#8, 0#8, 0#8] ∧
    Given 1 [1#8, 0#8, 0#8, 0#8, 2#8, 0#8] ∧ Given 1 [1#8, 0#8, 0#8, 0#8, 0#8, 2#8] ∧
    7 < (8#8).toNat ∧ 60000 < (0xEA#8).toNat * 256 + (0x61#8).toNat ∧ 1 < (2#8).toNat := by
  repeat' apply And.intro
  all_goals decide +kernel

theorem test_hyp_LeaveEndsSession : Given 0 [0x02#8] ∧ (asked 0 [0x02#8]).Joined 0 ∧ (asked 0 [0x02#8]).ClaimLaw :=
  ⟨by decide +kernel, by decide +kernel, test_claimLaw⟩

theorem test_hyp_SetMaskReEvaluates : Given 0 [0x03#8, byteOf (0 : Rank).val] ∧ Given 0 [0x03#8, byteOf (7 : Rank).val] ∧
    base.Joined 0 ∧ Given 0 [0x03#8, 8#8] ∧ 7 < (8#8).toNat ∧ Given 3 [0x03#8, 1#8] ∧ ¬ base.Joined 3 := by
  decide +kernel

theorem test_hyp_ReadAgentAndSource : Given 1 [0x04#8, byteOf (3 : AgentId).val] ∧ Given 1 [0x04#8, 4#8] ∧
    3 < (4#8).toNat ∧ Given 1 [0x0E#8, byteOf (6 : SourceIx).val] ∧ base.source 6 = some held6 ∧
    Given 1 [0x0E#8, byteOf (255 : SourceIx).val] ∧ base.source 255 = none := by decide +kernel

theorem test_hyp_ClaimGrantsBest : Given 0 [0x05#8, 1#8, 7#8] ∧ base.Joined 0 ∧ base.mode = .run ∧
    (base.agent 0).claims.length < 8 ∧ base.Eligible 0 1 7 5 level5 ∧ base.Eligible 0 1 7 7 edge7 ∧
    ∀ (j : SourceIx) (b : Source), base.Eligible 0 1 7 j b → j ≠ 5 → base.Precedes 5 level5 j b := by
  have h := all_sources (fun j b => base.Eligible 0 1 7 j b → j ≠ 5 → base.Precedes 5 level5 j b) (by decide +kernel)
  exact ⟨by decide +kernel, by decide +kernel, by decide +kernel, by decide +kernel, by decide +kernel,
    by decide +kernel, fun j b e => h j b e.1 e⟩

theorem test_hyp_ClaimRefusals : Given 0 [0x05#8, 0#8, 7#8] ∧ Given 0 [0x05#8, 3#8, 2#8] ∧ Given 0 [0x05#8, 1#8, 8#8] ∧
    8 ≤ ((base.setAgent 0 { agent0 with claims := List.replicate 8 claim6 }).agent 0).claims.length ∧
    Given 0 [0x05#8, 7#8, 7#8] ∧ ∀ (i : SourceIx) (a : Source), ¬ base.Eligible 0 7 7 i a := by
  have h := all_sources (fun j b => ¬ base.Eligible 0 7 7 j b) (by decide +kernel)
  exact ⟨by decide +kernel, by decide +kernel, by decide +kernel, by decide +kernel, by decide +kernel,
    fun j b e => h j b e.1 e⟩

theorem test_hyp_PeekNamesBest : Given 0 [0x06#8, 0#8, 7#8] ∧ Given 0 [0x06#8, 7#8, 7#8] ∧ Given 0 [0x06#8, 1#8, 7#8] ∧
    base.Joined 0 ∧ base.mode = .run ∧ Given 3 [0x06#8, 1#8, 7#8] ∧ ¬ base.Joined 3 ∧
    ({ asked 0 [0x06#8, 1#8, 7#8] with mode := .standby } : State).mode ≠ .run := by decide +kernel

theorem test_hyp_DoneAnswers : Given 0 [0x07#8, byteOf (6 : SourceIx).val] ∧ base.source 6 = some held6 ∧
    (∃ c ∈ (base.agent 0).claims, c.source = 6) ∧ Given 0 [0x07#8, byteOf (9 : SourceIx).val] ∧
    (∀ c ∈ (base.agent 0).claims, c.source ≠ 9) ∧ (9 : SourceIx) ∈ (base.agent 0).marks ∧
    Given 0 [0x07#8, byteOf (10 : SourceIx).val] ∧ (∀ c ∈ (base.agent 0).claims, c.source ≠ 10) ∧
    (10 : SourceIx) ∉ (base.agent 0).marks ∧ Given 3 [0x07#8, byteOf (6 : SourceIx).val] ∧ ¬ base.Joined 3 ∧
    ({ asked 0 [0x07#8, 6#8] with mode := .standby } : State).mode ≠ .run := by decide +kernel

theorem test_hyp_ServiceTimerExpires : (base.agent 0).claimOn 6 = some claim6 ∧ claim6.deadline ≠ none ∧
    ((base.agent 0).claims.map Claim.source).Nodup ∧ (∀ c ∈ (base.agent 3).claimOn 255, c.deadline = none) ∧
    ∀ c ∈ ({ agent0 with claims := [{ claim6 with deadline := none }] } : Agent).claimOn 6, c.deadline = none := by
  decide +kernel

theorem test_hyp_NoticesMove : base.trunk.queue.length < 30 ∧ (base.agent 0).notices = .fieldUp :: [] ∧
    (∀ j : AgentId, j < 0 → (base.agent j).notices = []) ∧ (∀ k : AgentId, (State.reset.agent k).notices = []) ∧
    30 ≤ ({ openLine with queue := List.replicate 30 { frame := ask 0 [], restart := false } } : Line).queue.length := by
  decide +kernel

theorem test_hyp_PromotionRequests :
    Managed [0x08#8, byteOf (3 : PromoSlot).val, byteOf (5 : SourceIx).val] ∧ base.source 5 = some level5 ∧
    level5.config.rank ≠ 0 ∧ level5.config.rank ≠ 7 ∧ (∀ q : PromoSlot, q ≠ 3 → base.promotion[q] ≠ some 5) ∧
    (∃ q : PromoSlot, q ≠ 0 ∧ ({ base with promotion := base.promotion.set 3 (some 5) } : State).promotion[q] = some 5) ∧
    Managed [0x08#8, 0#8, byteOf (6 : SourceIx).val] ∧ held6.config.rank = 7 ∧
    Managed [0x08#8, 0#8, byteOf (9 : SourceIx).val] ∧ base.source 9 = none ∧
    Managed [0x08#8, 4#8, 5#8] ∧ Managed [0x09#8, byteOf (3 : PromoSlot).val] ∧ Managed [0x09#8, 4#8] := by
  repeat' apply And.intro
  all_goals decide +kernel

/-! ### PUT-SOURCE -/

/-- A key that is free, of a rank at its upper bound. -/
def newConfig : SourceConfig :=
  { node := 1, channel := 15, cls := .edge, trigger := .both, rank := 7, order := 15, route := 15#4, blocked := true }

theorem test_hyp_PutSourceLoads : Managed (0x0A#8 :: sourceBytes 255 newConfig) ∧ base.source 255 = none ∧
    base.node 1 = some Node.contactBlock ∧ newConfig.rank = 7 ∧ newConfig.cls = .edge ∧
    ∀ (j : SourceIx) (b : Source), base.source j = some b →
      ¬ (b.config.node = newConfig.node ∧ b.config.channel = newConfig.channel) := by
  exact ⟨by decide +kernel, by decide +kernel, by decide +kernel, by decide, by decide, all_sources
    (fun _ b => ¬ (b.config.node = newConfig.node ∧ b.config.channel = newConfig.channel)) (by decide +kernel)⟩

/-- An update with the class kept, and one with a class change of an IDLE source (KeyLaw of `base` is shown above). -/
theorem test_hyp_PutSourceUpdates :
    (Managed (0x0A#8 :: sourceBytes 5 { levelConfig with rank := 6 }) ∧ base.source 5 = some level5) ∧
    (Managed (0x0A#8 :: sourceBytes 8 { idle8.config with cls := .edge, rank := 7 }) ∧ base.source 8 = some idle8 ∧
      idle8.status = .idle ∧ ∀ p : PromoSlot, base.promotion[p] ≠ some 8) := by
  repeat' apply And.intro
  all_goals decide +kernel

/-- Each field of a PUT-SOURCE just out of its range. -/
theorem test_hyp_PutSourceRanges :
    Managed [0x0A#8, 0#8, 64#8, 0#8, 0#8, 0#8, 1#8, 0#8, 0#8, 0#8] ∧
    Managed [0x0A#8, 0#8, 0#8, 16#8, 0#8, 0#8, 1#8, 0#8, 0#8, 0#8] ∧
    Managed [0x0A#8, 0#8, 0#8, 0#8, 2#8, 0#8, 1#8, 0#8, 0#8, 0#8] ∧
    Managed [0x0A#8, 0#8, 0#8, 0#8, 0#8, 3#8, 1#8, 0#8, 0#8, 0#8] ∧
    Managed [0x0A#8, 0#8, 0#8, 0#8, 0#8, 0#8, 0#8, 0#8, 0#8, 0#8] ∧
    Managed [0x0A#8, 0#8, 0#8, 0#8, 0#8, 0#8, 8#8, 0#8, 0#8, 0#8] ∧
    Managed [0x0A#8, 0#8, 0#8, 0#8, 0#8, 0#8, 1#8, 16#8, 0#8, 0#8] ∧
    Managed [0x0A#8, 0#8, 0#8, 0#8, 0#8, 0#8, 1#8, 0#8, 16#8, 0#8] ∧
    Managed [0x0A#8, 0#8, 0#8, 0#8, 0#8, 0#8, 1#8, 0#8, 0#8, 2#8] := by
  repeat' apply And.intro
  all_goals decide +kernel

/-- One request for each of the checks 2 to 7 of R8 that is the first to fail. -/
theorem test_hyp_PutSourceRefusals :
    (Managed (0x0A#8 :: sourceBytes 5 newConfig) ∧ base.source 5 = some level5 ∧
      ¬ (level5.config.node = newConfig.node ∧ level5.config.channel = newConfig.channel)) ∧
    (Managed (0x0A#8 :: sourceBytes 9 levelConfig) ∧ base.source 9 = none ∧
      (5 : SourceIx) ≠ 9 ∧ ∃ b ∈ base.source 5, b.config.node = levelConfig.node ∧ b.config.channel = levelConfig.channel) ∧
    (Managed (0x0A#8 :: sourceBytes 9 { newConfig with node := 2 }) ∧ base.node 2 = none ∧
      ∀ p ∈ loaded, p.1 ≠ 9 → ¬ (p.2.config.node = 2 ∧ p.2.config.channel = 15)) ∧
    (Managed (0x0A#8 :: sourceBytes 9 { newConfig with cls := .level }) ∧ (base.node 1).isSome = true) ∧
    (Managed (0x0A#8 :: sourceBytes 5 { levelConfig with cls := .edge }) ∧ level5.status ≠ .idle) ∧
    (Managed (0x0A#8 :: sourceBytes 7 { edge7.config with rank := 7 }) ∧
      ∃ p : PromoSlot, ({ base with promotion := base.promotion.set 0 (some 7) } : State).promotion[p] = some 7) := by
  repeat' apply And.intro
  all_goals decide +kernel

theorem test_hyp_DropSourceVacates : Managed [0x0B#8, byteOf (9 : SourceIx).val] ∧ base.source 9 = none ∧
    Managed [0x0B#8, byteOf (5 : SourceIx).val] ∧ base.source 5 = some level5 ∧
    (∀ h : AgentId, level5.status ≠ .held h) ∧ Managed [0x0B#8, byteOf (6 : SourceIx).val] ∧
    base.source 6 = some held6 ∧ held6.status = .held 0 := by decide +kernel

theorem test_hyp_BlockAndUnblock : Managed [0x0C#8, byteOf (5 : SourceIx).val] ∧ Managed [0x0D#8, byteOf (5 : SourceIx).val] ∧
    base.source 5 = some level5 ∧ level5.config.blocked = false ∧ Managed [0x0C#8, byteOf (9 : SourceIx).val] ∧
    Managed [0x0D#8, byteOf (9 : SourceIx).val] ∧ base.source 9 = none := by decide +kernel

theorem test_hyp_ForceAndRelease : Managed [0x0F#8, byteOf (5 : SourceIx).val] ∧ base.mode = .run ∧
    Managed [0x10#8, byteOf (5 : SourceIx).val] ∧ Managed [0x0F#8, byteOf (9 : SourceIx).val] ∧
    Managed [0x10#8, byteOf (9 : SourceIx).val] := by decide +kernel

/-! ### Nodes, reports and contacts -/

theorem test_hyp_SlotsTakeOldest : ¬ (State.reset.mode = .run ∧ State.reset.field.link = .up) ∧
    base.mode = .run ∧ base.field.link = .up ∧ ({ base with waitList := [1, 4, 2, 5] } : State).waitList.Nodup := by
  decide +kernel

/-- PUT-NODE of a present node and of new ones at the ends of the range, and out of range; DROP-NODE of 0, of 64, of a
node that is not present, of one with sources and of one without. -/
theorem test_hyp_PutAndDropNode :
    Managed [0x11#8, byteOf (1 : NodeId).val, flagByte true, byteOf (5 : SourceIx).val] ∧
    base.node 1 = some Node.contactBlock ∧
    Managed [0x11#8, byteOf (63 : NodeId).val, flagByte false, byteOf (0 : SourceIx).val] ∧ base.node 63 = none ∧
    Managed [0x11#8, 64#8, 0#8, 0#8] ∧ Managed [0x11#8, 1#8, 2#8, 0#8] ∧ Managed [0x12#8, 0#8] ∧
    Managed [0x12#8, 64#8] ∧ Managed [0x12#8, byteOf (63 : NodeId).val] ∧ Managed [0x12#8, byteOf (1 : NodeId).val] ∧
    (∃ a ∈ base.source 5, a.config.node = 1) ∧ Managed [0x12#8, byteOf (3 : NodeId).val] ∧
    (base.node 3).isSome = true ∧ ∀ p ∈ loaded, p.2.config.node ≠ 3 := by
  repeat' apply And.intro
  all_goals decide +kernel

/-- (WaitLaw of `base` is shown above.) -/
theorem test_hyp_ReadNodeAndPart :
    Given 0 [0x13#8, byteOf (3 : NodeId).val, flagByte true] ∧ base.role = some 0 ∧ (base.node 3).isSome = true ∧
    Given 1 [0x13#8, byteOf (4 : NodeId).val, flagByte false] ∧ (base.node 4).isSome = true ∧
    Given 1 [0x13#8, byteOf (63 : NodeId).val, flagByte false] ∧ base.node 63 = none ∧
    Given 1 [0x13#8, 64#8, flagByte false] ∧ Given 0 [0x16#8, flagByte true] ∧ Given 1 [0x16#8, flagByte false] := by
  repeat' apply And.intro
  all_goals decide +kernel

/-- An EVT of a SYNCED, a RESYNCING and a LOST node, in sequence and not (KeyLaw of `base` is shown above). -/
theorem test_hyp_EventReports :
    (reported (report 1 2#8 [0#8, 1#8, 0#8])).Intakes (report 1 2#8 [0#8, 1#8, 0#8]) ∧
    (reported (report 1 2#8 [15#8, 3#8, 1#8])).Intakes (report 1 2#8 [15#8, 3#8, 1#8]) ∧
    (reported (report 3 2#8 [0#8, 2#8, 0#8])).Intakes (report 3 2#8 [0#8, 2#8, 0#8]) ∧
    (reported (report 3 2#8 [0#8, 2#8, 9#8])).Intakes (report 3 2#8 [0#8, 2#8, 9#8]) ∧
    (reported (report 4 2#8 [0#8, 1#8, 0#8])).Intakes (report 4 2#8 [0#8, 1#8, 0#8]) ∧
    (base.node 1).map Node.state = some .synced ∧ (base.node 3).map Node.state = some .resyncing ∧
    (base.node 4).map Node.state = some .lost ∧ (report 3 2#8 [0#8, 2#8, 9#8]).kind = 2#8 ∧
    (report 3 2#8 [0#8, 2#8, 9#8]).orig = byteOf (3 : NodeId).val ∧
    (report 3 2#8 [0#8, 2#8, 9#8]).payload = [byteOf (0 : Channel).val, 2#8, 9#8] := by decide +kernel

theorem test_hyp_StateReports :
    (reported (report 4 3#8 [0x80#8, 0x01#8, 7#8])).Intakes (report 4 3#8 [0x80#8, 0x01#8, 7#8]) ∧
    (report 4 3#8 [0x80#8, 0x01#8, 7#8]).kind = 3#8 ∧
    (report 4 3#8 [0x80#8, 0x01#8, 7#8]).orig = byteOf (4 : NodeId).val ∧ base.source 5 = some level5 ∧
    level5.config.node = 1 ∧ level5.config.channel = 0 ∧ base.keyed 63 15 = none ∧
    (base.node 4).map Node.wasLost = some true ∧ (base.node 1).map Node.wasLost = some false := by decide +kernel

/-- Slots 1 and 2 owe a query, and slot 1 is the lower. -/
def owing : State :=
  { base with slots := (base.slots.set 1 (some { node := 4, phase := .queryOwed })).set 2
                        (some { node := 5, phase := .queryOwed }) }

theorem test_hyp_PlaceSyncqQueuesQuery : owing.slots[(1 : SlotId)] = some { node := 4, phase := .queryOwed } ∧
    (∀ m : SlotId, m < 1 → ∀ g ∈ owing.slots[m], g.phase ≠ .queryOwed) ∧ owing.field.queue.length < 16 ∧
    (∀ j : SlotId, ∀ e ∈ base.slots[j], e.phase ≠ .queryOwed) ∧
    16 ≤ ({ openLine with queue := List.replicate 16 { frame := ask 0 [], restart := false } } : Line).queue.length := by
  decide +kernel

/-- Node 3 with an attempt left, with none left, and with none left and a loss source. -/
theorem test_hyp_WaitTimerExpires : base.slots[(0 : SlotId)] = some { node := 3, phase := .waiting 10 } ∧
    base.node 3 = some { Node.contactBlock with state := .resyncing, attempts := 1 } ∧ 1 < base.resyncTries ∧
    ({ base with resyncTries := 1 } : State).resyncTries ≤ 1 ∧
    ((base.modNode 3 fun r => { r with lossSource := some 5, attempts := 3 }).node 3).map Node.lossSource =
      some (some 5) ∧
    (∀ e ∈ base.slots[(3 : SlotId)], ∀ n ∈ List.range 300, e.phase ≠ .waiting n) ∧ base.slots[(3 : SlotId)] = none := by
  decide +kernel

theorem test_hyp_SampleEventsRunFilters :
    ({ invert := true, length := 0, filter := .off } : Contact).filter = .off ∧
    ({ invert := true, length := 0, filter := .opening } : Contact).filter = .opening ∧
    ({ invert := true, length := 15, filter := .settling (some true) 15 } : Contact).filter = .settling (some true) 15 ∧
    (base.contacts[(0 : Channel)]).filter = .settled false 1 ∧ State.reset.pins.rstn = false ∧ base.pins.rstn = true ∧
    base.mode = .run ∧ ({ base with mode := .standby } : State).mode = .standby := by decide +kernel

theorem test_hyp_SetContactConfigures :
    Managed [0x14#8, byteOf (15 : Channel).val, flagByte true, flagByte false, byteOf (15 : Fin 16).val] ∧
    Managed [0x14#8, 16#8, 0#8, 0#8, 0#8] ∧ Managed [0x14#8, 0#8, 2#8, 0#8, 0#8] ∧
    Managed [0x14#8, 0#8, 0#8, 2#8, 0#8] ∧ Managed [0x14#8, 0#8, 0#8, 0#8, 16#8] := by
  repeat' apply And.intro
  all_goals decide +kernel

theorem test_hyp_SetTimingStores : Managed [0x15#8, 1#8, 1#8] ∧ Managed [0x15#8, 255#8, 7#8] ∧
    Managed [0x15#8, 0#8, 1#8] ∧ Managed [0x15#8, 1#8, 0#8] ∧ Managed [0x15#8, 1#8, 8#8] := by
  repeat' apply And.intro
  all_goals decide +kernel

theorem test_hyp_ResumeEntersRun : ({ asked 0 [0x17#8] with mode := .standby } : State).Sends (ask 0 [0x17#8]) 0 [0x17#8] ∧
    ({ asked 0 [0x17#8] with mode := .standby } : State).Manages 0 := by decide +kernel

theorem test_hyp_RestartMarksReply : Managed [0x18#8] := by decide +kernel

/-! ### Frames -/

theorem test_hyp_TrunkFramesSorted : (arrived (data 64#8)).Takes (data 64#8) ∧ (arrived (data 1#8)).Takes (data 1#8) ∧
    (arrived (data 63#8)).Takes (data 63#8) ∧ (asked 3 []).Takes (ask 3 []) ∧ (ask 3 []).orig = 0xE3#8 ∧
    (data 63#8).dest = byteOf (63 : NodeId).val ∧ (arrived (data 63#8)).node 63 = none ∧
    (arrived (data 1#8)).node 1 ≠ none ∧
    ({ openLine with rx := [data 1#8], hold := true } : Line).rx.head? = some (data 1#8) ∧
    base.field.queue.length < 12 ∧ base.trunk.hold = false ∧ base.trunk.rx = [] ∧
    12 ≤ ({ openLine with queue := List.replicate 12 { frame := ask 0 [], restart := false } } : Line).queue.length := by
  decide +kernel

theorem test_hyp_FieldFramesSorted :
    ((reported (report 63 2#8 [0#8, 1#8, 0#8])).Intakes (report 63 2#8 [0#8, 1#8, 0#8]) ∧ base.node 63 = none) ∧
    (reported (report 1 2#8 [16#8, 1#8, 0#8])).Intakes (report 1 2#8 [16#8, 1#8, 0#8]) ∧
    (reported (report 1 2#8 [0#8, 4#8, 0#8])).Intakes (report 1 2#8 [0#8, 4#8, 0#8]) ∧
    (reported (report 1 3#8 [0#8, 0#8])).Intakes (report 1 3#8 [0#8, 0#8]) ∧
    (reported (report 63 1#8 [])).Intakes (report 63 1#8 []) ∧ (reported (report 1 4#8 [])).Intakes (report 1 4#8 []) ∧
    (reported (report 1 1#8 [])).Intakes (report 1 1#8 []) ∧ (base.node 1).isSome = true ∧
    ({ reported (report 1 1#8 []) with trunk := Line.afterReset } : State).trunk.link ≠ .up ∧ base.trunk.link = .up ∧
    ({ openLine with rx := [report 1 1#8 []], hold := true } : Line).rx.head? = some (report 1 1#8 []) ∧
    base.trunk.queue.length < 20 ∧ base.field.hold = false ∧ base.field.rx = [] ∧
    20 ≤ ({ openLine with queue := List.replicate 20 { frame := ask 0 [], restart := false } } : Line).queue.length ∧
    State.reset.mode = .standby ∧ State.reset.field.link ≠ .up ∧ ({ openLine with hold := true } : Line).hold = true := by
  decide +kernel

/-- Agent 0 with a set alert flag that says nothing new, agent 1 with one that does. -/
def alerted : State :=
  { base with
    sources := base.sources.set 5 (some { level5 with config := { levelConfig with route := 0b0011#4 } })
    agents := (base.agents.set 0 { agent0 with alert := true }).set 1
      { Agent.afterReset with session := .attached, alert := true } }

theorem test_hyp_TransmittersChoose : alerted.trunk.link = .up ∧ 0 < alerted.trunk.sendCredit ∧
    alerted.trunk.sending = none ∧ (alerted.agent 1).alert = true ∧
    alerted.attention 1 ≠ (alerted.agent 1).lastSent ∧ (alerted.agent 0).alert = true ∧
    (∀ j : AgentId, j < 1 → (alerted.agent j).alert = true → alerted.attention j = (alerted.agent j).lastSent) ∧
    (∀ j : AgentId, (base.agent j).alert = true → base.attention j = (base.agent j).lastSent) ∧
    State.reset.trunk.link ≠ .up ∧ ({ openLine with sendCredit := 0 } : Line).sendCredit = 0 ∧
    ({ openLine with sending := some .head } : Line).sending ≠ none ∧
    (openLine.place (ask 0 [])).queue ≠ [] ∧ openLine.queue = [] := by decide +kernel

/-- A port sending the head of its queue. -/
def sendingLine (f : Frame) (restart : Bool) : Line :=
  { openLine with sending := some .head, queue := [{ frame := f, restart }] }

theorem test_hyp_FrameTransmittedActs : (base.line .trunk).sending = none ∧ (base.line .field).sending = none ∧
    ({ base with trunk := { openLine with sending := some (.alert (ask 0 [])) } } : State).trunk.sending =
      some (.alert (ask 0 [])) ∧
    (sendingLine (ask 0 []) true).sending = some .head ∧
    (sendingLine (ask 0 []) false).queue = { frame := ask 0 [], restart := false } :: [] ∧
    (sendingLine (ask 0 []) true).queue = { frame := ask 0 [], restart := true } :: [] ∧ (data 1#8).kind ≠ 4#8 ∧
    (report 1 4#8 []).kind = 4#8 ∧
    (∀ j : SlotId, ∀ g ∈ base.slots[j], g.phase = .queryQueued → byteOf g.node.val ≠ (report 1 4#8 []).dest) ∧
    ({ base with slots := base.slots.set 1 (some { node := 3, phase := .queryQueued }) } : State).slots[(1 : SlotId)] =
      some { node := 3, phase := .queryQueued } ∧
    (Frame.sealed 3#8 0xF0#8 4#8 0#8 []).dest = byteOf (3 : NodeId).val ∧ (base.node 3).isSome = true ∧
    ∀ m : SlotId, m < 1 → ∀ g ∈ ((base.slots.set 0 none).set 1 (some { node := 3, phase := .queryQueued }))[m],
      g.node ≠ 3 := by decide +kernel

theorem test_hyp_FrameReceivedActs : State.reset.trunk.link = .down ∧ base.trunk.link = .up ∧
    ({ openLine with creditGiven := 0 } : Line).creditGiven = 0 ∧ 0 < base.trunk.creditGiven ∧
    (ask 0 []).payload.length ≤ 48 ∧ (ask 0 []).check = crc16 (ask 0 []).covered ∧
    (∀ f : Frame, ¬ ([] = f.bytes)) := by
  refine ⟨by decide +kernel, by decide +kernel, by decide +kernel, by decide +kernel, by decide +kernel,
    by decide +kernel, fun f h => ?_⟩
  simp [Frame.bytes, Frame.covered] at h

theorem test_hyp_LinkSymbols : ({ openLine with link := .announcing } : Line).link = .announcing ∧
    (base.line .trunk).link ≠ .announcing ∧ (base.line .field).link = .up ∧ (base.line .field).sendCredit < 15 ∧
    15 ≤ ({ openLine with sendCredit := 15 } : Line).sendCredit ∧ ({ openLine with link := .quiet } : Line).link = .quiet ∧
    (base.line .trunk).sending = none ∧ (State.reset.line .field).link = .down ∧
    (sendingLine (data 1#8) false).sending ≠ none := by decide +kernel

/-- (The four laws of `base` are shown above.) -/
theorem test_hyp_TrunkSilenceLosesLink : State.reset.trunk.link ≠ .up ∧ base.trunk.link = .up := by decide +kernel

theorem test_hyp_FieldSilenceLosesLink : State.reset.field.link ≠ .up ∧ base.field.link = .up ∧
    base.trunk.hold = false ∧ ({ openLine with rx := [data 1#8], hold := true } : Line).hold = true ∧
    ({ openLine with rx := [data 1#8], hold := true } : Line).rx.head? = some (data 1#8) := by decide +kernel

theorem test_hyp_ResetsTakenAndEnded : base.pins.rstn = true ∧ State.reset.pins.rstn = false ∧
    State.reset.mode = .standby ∧ State.reset.trunk.link = .down ∧ State.reset.field.link = .down := by decide +kernel

theorem test_hyp_FrameBytesAgree : (data 1#8).payload.length ≤ 48 ∧ (data 1#8).check = crc16 (data 1#8).covered ∧
    Frame.ofBytes? (data 1#8).bytes = some (data 1#8) := by decide +kernel

/-! ## What commands answer -/

/-- The payload of the last frame of the trunk transmit queue. -/
def lastPayload : Outcome → Option (List Byte)
  | .next t => t.trunk.queue.getLast?.map fun e => e.frame.payload
  | .fault _ => none
  | .refused _ => none

/-- What an outcome's state holds, read by `f`. -/
def reads {α : Type} (f : State → α) : Outcome → Option α
  | .next t => some (f t)
  | .fault _ => none
  | .refused _ => none

/-- Section 11.6: source 40, keyed (12, 5), EDGE, edge-owed with merge count 1, of rank 5; straps 3; agent 1. -/
def example116 : State :=
  { base with
    straps := 3#3
    grantNumber := 263#16
    agents := base.agents.set 1 { Agent.afterReset with session := .attached }
    sources := State.reset.sources.set 40 (some {
      config := { node := 12, channel := 5, cls := .edge, trigger := .rising, rank := 5, order := 0, route := 0b0010#4,
                  blocked := false }
      status := .pending, uncertain := false, merge := 1#8
      reasons := { edgeOwed := true, latched := false, asserted := false, forced := false } })
    trunk := { openLine with rx := [Frame.sealed 0xF3#8 0xE1#8 0x10#8 9#8 [0x05#8, 0x01#8, 0x07#8]] } }

theorem test_claim_section_11_6 : reads (fun t => t.trunk.queue.map fun e => e.frame) (exec .claim example116) =
    some [Frame.sealed 0xE1#8 0xF3#8 0x11#8 9#8
      [0x05#8, 0x00#8, 40#8, 12#8, 5#8, 5#8, 0x01#8, 0x07#8, 0x01#8, 1#8, 0x00#8, 0x00#8]] := by decide +kernel
theorem test_frame_length_11_6 :
    (Frame.sealed 0xE1#8 0xF3#8 0x11#8 9#8 (List.replicate 12 0#8)).bytes.length = 19 := by decide +kernel
theorem test_claim_none : lastPayload (exec .claim (asked 0 [5#8, 7#8, 7#8])) = some [5#8, 1#8] := by decide +kernel
theorem test_peek : lastPayload (exec .peek (asked 0 [6#8, 1#8, 2#8])) = some [6#8, 0#8, 7#8, 1#8, 2#8, 2#8] := by
  decide +kernel
theorem test_crc : crc16 [0x31#8, 0x32#8, 0x33#8, 0x34#8, 0x35#8, 0x36#8, 0x37#8, 0x38#8, 0x39#8] = 0x29B1#16 := by
  decide +kernel

theorem test_join : lastPayload (exec .join (asked 1 [1#8, 2#8, 0#8, 100#8, 1#8, 1#8])) =
    some [1#8, 0x07#8, 1#8, 0#8, 0#8] := by decide +kernel
theorem test_join_attention :
    reads (fun t => ((t.agent 2).attached, (t.agent 2).alert, (t.agent 2).mask))
      (exec .join (asked 2 [1#8, 2#8, 0#8, 100#8, 1#8, 0#8])) = some (true, false, 2) := by decide +kernel
theorem test_leave : reads (fun t => (t.role, t.agent 0, (t.source 6).map Source.status, (t.source 6).map Source.reasons))
    (exec .leave (asked 0 [2#8])) =
      some (none, { agent0 with session := .detached, claims := [], marks := [], notices := [] },
        some .pending, some { edgeOwed := true, latched := false, asserted := true, forced := false }) := by
  decide +kernel
/-- Agent 1 sees the reclaimed source: its alert flag is set; agent 2, detached, keeps its own. -/
theorem test_leave_alerts : reads (fun t => ((t.agent 1).alert, (t.agent 2).alert)) (exec .leave { asked 0 [2#8] with
    sources := base.sources.set 6 (some { held6 with config := { held6.config with route := 0b1111#4 } })
    agents := base.agents.set 1 { Agent.afterReset with session := .attached } }) = some (true, false) := by
  decide +kernel
theorem test_setMask : lastPayload (exec .setMask (asked 0 [3#8, 7#8])) = some [3#8, 0#8, 0#8] := by decide +kernel
theorem test_readAgent : lastPayload (exec .readAgent (asked 3 [4#8, 0#8])) =
    some [4#8, 0#8, 1#8, 1#8, 0#8, 0#8, 50#8, 1#8, 1#8, 0#8, 0#8, 3#8, 3#8, 0#8, 0#8, 1#8, 6#8, 1#8, 1#8, 9#8] := by
  decide +kernel
theorem test_done : lastPayload (exec .done (asked 0 [7#8, 6#8])) = some [7#8, 0#8, 0#8] := by decide +kernel
theorem test_done_late : lastPayload (exec .done (asked 0 [7#8, 9#8])) = some [7#8, 2#8] := by decide +kernel
theorem test_putPromotion : lastPayload (exec .putPromotion (asked 0 [8#8, 1#8, 7#8])) = some [8#8, 0#8, 0#8, 0#8] := by
  decide +kernel
theorem test_putPromotion_alert : reads (fun t => (t.attention 0, (t.agent 0).alert))
    (exec .putPromotion (asked 0 [8#8, 1#8, 7#8])) = some (6, true) := by decide +kernel
theorem test_clearPromotion : lastPayload (exec .clearPromotion (asked 0 [9#8, 1#8])) = some [9#8, 0#8, 0#8, 0#8] := by
  decide +kernel
theorem test_putSource : lastPayload (exec .putSource (asked 0 (0x0A#8 :: sourceBytes 255 newConfig))) =
    some [0x0A#8, 0#8, 0#8] := by decide +kernel
theorem test_dropSource : reads (fun t => (t.source 6, (t.agent 0).claims, (t.agent 0).notices))
    (exec .dropSource (asked 0 [0x0B#8, 6#8])) = some (none, [], [.fieldUp, .withdrawn 6]) := by decide +kernel
theorem test_block : reads (fun t => (t.attention 0, (t.agent 0).alert)) (exec .block (asked 0 [0x0C#8, 5#8])) =
    some (2, true) := by decide +kernel
theorem test_unblock : lastPayload (exec .unblock (asked 0 [0x0D#8, 5#8])) = some [0x0D#8, 0#8] := by decide +kernel
theorem test_readSource : lastPayload (exec .readSource (asked 1 [0x0E#8, 6#8])) =
    some [0x0E#8, 0#8, 1#8, 1#8, 0#8, 0#8, 7#8, 0#8, 1#8, 0#8, 0xFF#8, 2#8, 0#8, 0#8, 0#8, 4#8, 0#8, 0#8] := by
  decide +kernel
theorem test_force : lastPayload (exec .force (asked 0 [0x0F#8, 8#8])) = some [0x0F#8, 0#8, 1#8] := by decide +kernel
theorem test_release : lastPayload (exec .release (asked 0 [0x10#8, 6#8])) = some [0x10#8, 0#8, 2#8] := by decide +kernel
theorem test_putNode : reads (fun t => ((t.node 2).map Node.state, t.slots[(1 : SlotId)]))
    (exec .putNode (asked 0 [0x11#8, 2#8, 0#8, 0#8])) =
      some (some .resyncing, some { node := 2, phase := .queryOwed }) := by decide +kernel
theorem test_dropNode : lastPayload (exec .dropNode (asked 0 [0x12#8, 3#8])) = some [0x12#8, 0#8, 2#8] := by decide +kernel
theorem test_readNode : lastPayload (exec .readNode (asked 1 [0x13#8, 3#8, 0#8])) =
    some [0x13#8, 0#8, 2#8, 0#8, 3#8, 0#8, 1#8, 0#8, 0#8, 0#8, 0#8, 0#8, 0#8, 0#8, 0#8] := by decide +kernel
theorem test_setContact : lastPayload (exec .setContact (asked 0 [0x14#8, 0#8, 1#8, 1#8, 2#8])) =
    some [0x14#8, 0#8, 1#8, 1#8, 2#8, 3#8, 1#8] := by decide +kernel
theorem test_setContact_raise : reads (fun t => (t.source 8).map Source.status)
    (exec .setContact (asked 0 [0x14#8, 0#8, 1#8, 1#8, 2#8])) = some (some .pending) := by decide +kernel
theorem test_setTiming : lastPayload (exec .setTiming (asked 0 [0x15#8, 255#8, 7#8])) =
    some [0x15#8, 0#8, 255#8, 7#8] := by decide +kernel
theorem test_readPart : lastPayload (exec .readPart (asked 1 [0x16#8, 0#8])) =
    some ([0x16#8, 0#8, 1#8, 0#8, 0#8, 1#8, 0xF0#8, 10#8, 3#8] ++ List.replicate 14 0#8) := by decide +kernel
theorem test_resume : lastPayload (exec .resume { asked 0 [0x17#8] with mode := .standby, retained := true }) =
    some [0x17#8, 0#8, 1#8, 0#8] := by decide +kernel
theorem test_restart : reads State.restartPending (exec .restart (asked 0 [0x18#8])) = some true := by decide +kernel
theorem test_undefinedRequestCode : lastPayload (exec .undefinedRequestCode (asked 2 [0x19#8])) = some [0x19#8, 0x10#8] := by
  decide +kernel

theorem test_foreignFrame : reads (fun t => (t.counters.foreign, t.trunk.rx, t.trunk.creditGiven))
    (exec .foreignFrame (arrived (data 64#8))) = some (1#16, [], 8) := by decide +kernel
theorem test_trunkDataTaken : reads (fun t => (t.counters.misdirected, t.trunk.hold))
    (exec .trunkDataTaken (arrived (data 63#8))) = some (1#16, false) := by decide +kernel
theorem test_trunkDataPlaced : reads (fun t => (t.field.queue.map TxEntry.frame, t.trunk.hold))
    (exec .trunkDataPlaced { arrived (data 1#8) with trunk := { openLine with rx := [data 1#8], hold := true } }) =
      some ([data 1#8], false) := by decide +kernel
theorem test_evt_gap : reads (fun t => ((t.node 1).map Node.state, (t.node 1).map Node.gaps, (t.agent 0).notices))
    (exec .evt (reported (report 1 2#8 [15#8, 3#8, 1#8]))) =
      some (some .resyncing, some 1#16, [.fieldUp, .gap 1]) := by decide +kernel
theorem test_evt_fall : reads (fun t => ((t.source 5).map Source.status, t.attention 0, (t.node 1).map Node.expected))
    (exec .evt (reported (report 1 2#8 [0#8, 2#8, 0#8]))) = some (some .idle, 2, some 1#8) := by decide +kernel
theorem test_state : reads (fun t => ((t.node 4).map Node.state, (t.node 4).map Node.expected, (t.agent 0).notices))
    (exec .state (reported (report 4 3#8 [0x80#8, 0x01#8, 7#8]))) =
      some (some .synced, some 7#8, [.fieldUp, .regained 4]) := by decide +kernel
theorem test_strayFrame : reads (fun t => t.counters.stray) (exec .strayFrame (reported (report 1 4#8 []))) =
    some 1#16 := by decide +kernel
theorem test_fieldDataTaken : reads (fun t => t.field.hold) (exec .fieldDataTaken (reported (report 1 1#8 []))) =
    some true := by decide +kernel
theorem test_fieldDataPlaced : reads (fun t => t.trunk.queue.map TxEntry.frame)
    (exec .fieldDataPlaced { base with field := { openLine with rx := [report 1 1#8 []], hold := true } }) =
      some [report 1 1#8 []] := by decide +kernel

theorem test_moveNotice : lastPayload (exec .moveNotice base) = some [0x07#8, 0#8, 0#8] := by decide +kernel
theorem test_placeSyncq : reads (fun t => (t.field.queue.map TxEntry.frame, t.slots[(1 : SlotId)]))
    (exec .placeSyncq owing) =
      some ([Frame.sealed 4#8 0xF0#8 4#8 0#8 []], some { node := 4, phase := .queryQueued }) := by decide +kernel
theorem test_resyncWaitExpiry : reads (fun t => t.slots[(0 : SlotId)]) (exec (.resyncWaitExpiry 0) base) =
    some (some { node := 3, phase := .queryOwed }) := by decide +kernel
theorem test_resyncWaitExpiry_lost : reads (fun t => ((t.node 3).map Node.state, (t.agent 0).notices))
    (exec (.resyncWaitExpiry 0) { base with resyncTries := 1 }) = some (some .lost, [.fieldUp, .lost 3]) := by
  decide +kernel
theorem test_serviceTimerExpiry : reads (fun t => ((t.agent 0).claims, (t.agent 0).marks, (t.agent 0).reclaims,
    (t.agent 0).notices)) (exec (.serviceTimerExpiry 0 6) base) =
      some ([], [9, 6], 1#16, [.fieldUp, .stale 6]) := by decide +kernel
theorem test_sampleEvent : reads (fun t => ((t.contacts[(0 : Channel)]).filter, (t.source 8).map Source.status))
    (exec (.sampleEvent 1#16) base) = some (.settled false 2, some .idle) := by decide +kernel
theorem test_sampleEvent_change : reads (fun t => ((t.contacts[(0 : Channel)]).filter, (t.source 8).map Source.status))
    (exec (.sampleEvent 1#16) { base with
      contacts := base.contacts.set 0 { invert := false, length := 2, filter := .settled false 2 } }) =
      some (.settled true 0, some .pending) := by decide +kernel

theorem test_trunkTransmitter : reads (fun t => (t.trunk.sending, (t.agent 0).alert, (t.agent 1).lastSent))
    (exec .trunkTransmitter alerted) =
      some (some (.alert (Frame.sealed 0xE1#8 0xF0#8 0x12#8 0#8 [3#8])), false, 3) := by decide +kernel
theorem test_fieldTransmitter : reads (fun t => (t.field.sending, t.field.sendCredit))
    (exec .fieldTransmitter { base with field := openLine.place (data 1#8) }) = some (some .head, 4) := by decide +kernel
theorem test_frameTransmitted : reads (fun t => (t.field.queue, t.field.sent))
    (exec (.frameTransmitted .field 0#3) { base with field := sendingLine (data 1#8) false }) =
      some ([], [.frame (data 1#8)]) := by decide +kernel
theorem test_frameTransmitted_restart : reads (fun t => (t.mode, t.retained, t.trunk.link, t.partAddr))
    (exec (.frameTransmitted .trunk 5#3) { base with trunk := sendingLine (ask 0 []) true }) =
      some (.standby, true, .quiet, 0xF5#8) := by decide +kernel
theorem test_frameReceived : reads (fun t => (t.trunk.rx, t.trunk.creditGiven))
    (exec (.frameReceived .trunk (data 1#8).bytes) base) = some ([data 1#8], 6) := by decide +kernel
theorem test_frameReceived_bad : reads (fun t => (t.trunk.rx, t.trunk.creditGiven, t.counters.trunkChecks, t.trunk.sent))
    (exec (.frameReceived .trunk [1#8, 2#8, 3#8, 4#8, 0#8, 0#8, 0#8]) base) = some ([], 7, 1#16, [.credit]) := by
  decide +kernel
theorem test_readyReceived : reads (fun t => (t.field.link, t.field.sendCredit, (t.agent 0).notices))
    (exec (.readyReceived .field 8) { base with field := { openLine with link := .announcing, sendCredit := 0 } }) =
      some (.up, 8, [.fieldUp, .fieldUp]) := by decide +kernel
theorem test_creditReceived : reads (fun t => t.trunk.sendCredit) (exec (.creditReceived .trunk) base) = some 6 := by
  decide +kernel
theorem test_quietPhaseEnd : reads (fun t => t.trunk.link)
    (exec (.quietPhaseEnd .trunk) { base with trunk := { openLine with link := .quiet } }) = some .announcing := by
  decide +kernel
theorem test_readyFill : reads (fun t => t.trunk.sent) (exec (.readyFill .trunk) base) = some [.ready 7] := by
  decide +kernel
theorem test_silence_trunk : reads (fun t => (t.trunk.link, t.role, (t.agent 0).session, t.counters.flushed))
    (exec (.silenceTimeout .trunk) { base with trunk := openLine.place (ask 0 []) }) =
      some (.quiet, none, .detached, 1#16) := by decide +kernel
theorem test_silence_field : reads (fun t => (t.field.link, t.waitList, t.slots[(0 : SlotId)],
    (t.source 5).map Source.uncertain, (t.source 8).map Source.uncertain)) (exec (.silenceTimeout .field) base) =
      some (.quiet, [1, 3, 4], none, some true, some false) := by decide +kernel
theorem test_warmReset : reads (fun t => (t.mode, t.retained, t.trunk.link, t.waitList)) (exec .warmReset base) =
    some (.standby, true, .down, [1, 3, 4]) := by decide +kernel
theorem test_warmReset_source : reads (fun t => t.source 5) (exec .warmReset base) = some (some { level5 with
    status := .idle, uncertain := true
    reasons := { edgeOwed := false, latched := false, asserted := false, forced := false } }) := by decide +kernel
theorem test_resetEnd : reads (fun t => (t.trunk.link, t.trunk.creditGiven, t.field.creditGiven, t.partAddr))
    (exec (.resetEnd 7#3) State.reset) = some (.quiet, 8, 0, 0xF7#8) := by decide +kernel
theorem test_powerOn : reads (fun t => (t.retained, t.field.link, t.pins.straps, t.source 5))
    (exec (.powerOn 2#3 true) base) = some (false, .quiet, 2#3, none) := by decide +kernel

/-- The bits of no word are a command: the table gives none. -/
theorem test_decodeTableWord : decodeTableWord 16 0x1234 = none ∧ base.withFetchWord 16 0x1234 = base := ⟨rfl, rfl⟩
/-- A step takes the front of the queue and leaves the rest. -/
theorem test_step : reads State.pending (step { base with pending := [.readyFill .field, .evt] }) = some [.evt] := by
  decide +kernel

end Sys2Proof.Tests
end

section
/-! PROOFS. Sessions and claims (Chapter 4): JOIN, SET-MASK, PEEK and DONE. First what the common checks refuse, what
the arguments read as and which source is the best; then one equation for each case of an owning block's act. -/

namespace Sys2Proof.Machine

open Sys2Proof

/-! ## Requests that a common check refuses -/

section
variable {s : State} {f : Frame} {k : AgentId} {c : ReqCode} {args : List Byte}

/-- Table 7-2, step 2: a request that needs a session, from an agent without one. -/
theorem serve_notJoined (own : AgentId → List Byte → State → State × Reply) (h : s.Sends f k (c.byte :: args))
    (hw : c.wellFormed args = true) (hs : c.needsSession = true) (hj : ¬ s.Joined k) :
    serve c own s = .next (s.answer f { status := .notJoined }) := by
  have ha : (s.agent k).attached = false := by simpa [Agent.attached] using hj
  exact serve_of_failed h.1 c own args h.2 .notJoined (by simp [State.commonCheck, hw, hs, ha])

/-- Table 7-2, step 4: a request that meets the first three checks, in a mode that is not the one it needs. -/
theorem serve_wrongMode (own : AgentId → List Byte → State → State × Reply) (h : s.Sends f k (c.byte :: args))
    (hw : c.wellFormed args = true) (hj : s.Joined k) (hr : c.needsRole args = false) {m : Mode}
    (hm : c.needsMode = some m) (hne : s.mode ≠ m) :
    serve c own s = .next (s.answer f { status := .mode }) := by
  have ha : (s.agent k).attached = true := (Agent.attached_iff _).2 hj
  exact serve_of_failed h.1 c own args h.2 .mode (by simp [State.commonCheck, hw, ha, hr, hm, hne])

end

/-! ## What the arguments read as -/

theorem halfOf_toNat (hi lo : Byte) : (halfOf hi lo).toNat = hi.toNat * 256 + lo.toNat := by
  have hlo := lo.isLt
  rw [halfOf, BitVec.toNat_append, ← Nat.shiftLeft_add_eq_or_of_lt hlo, Nat.shiftLeft_eq]

theorem joinArgs_of_bytes (mask : Rank) (limit : Half) (notice want : Bool) (h : limit.toNat ≤ 60000) :
    joinArgs (byteOf mask.val :: halfBytes limit ++ [flagByte notice, flagByte want]) =
      some { mask, serviceLimit := limit, noticeFlag := notice, wantRole := want } := by
  have hmask := below_byteOf (by omega : 8 ≤ 256) mask
  simp [joinArgs, halfBytes, hmask, h, Config.maxServiceLimit]

/-- Each of the four arguments of a JOIN can be the one out of range (R65). -/
theorem joinArgs_none (m hi lo n w : Byte)
    (h : 7 < m.toNat ∨ 60000 < hi.toNat * 256 + lo.toNat ∨ 1 < n.toNat ∨ 1 < w.toNat) :
    joinArgs [m, hi, lo, n, w] = none := by
  unfold joinArgs
  rcases h with hm | hlimit | hn | hw
  · simp [below_none m (n := 8) hm]
  · have hnot : ¬ (halfOf hi lo).toNat ≤ 60000 := by
      rw [halfOf_toNat]
      omega
    simp only [Config.maxServiceLimit, if_neg hnot]
    split <;> rfl
  · simp [flagOf_none n hn]
  · simp [flagOf_none w hw]

theorem rankOf_eq_some_iff (b : Byte) (r : Rank) : rankOf b = some r ↔ r.val = b.toNat ∧ 1 ≤ b.toNat := by
  have hr := r.isLt
  unfold rankOf
  by_cases hb : b.toNat < 8
  · have hread : below 8 b = some ⟨b.toNat, hb⟩ := by simp [below, hb]
    simp only [hread, Option.filter_eq_some_iff, Option.some.injEq, decide_eq_true_eq, ne_eq, Fin.ext_iff]
    constructor
    · rintro ⟨hval, hne⟩
      have : r.val ≠ 0 := hne
      omega
    · rintro ⟨hval, hle⟩
      exact ⟨hval.symm, fun h0 : r.val = 0 => by omega⟩
  · rw [below_none b (by omega)]
    simp
    omega

/-- Floor and ceiling are read exactly when they are a range (R50). -/
theorem rangeArgs_eq_some_iff (lo hi : Byte) (floor ceiling : Rank) :
    rangeArgs [lo, hi] = some (floor, ceiling) ↔
      floor.val = lo.toNat ∧ ceiling.val = hi.toNat ∧ 1 ≤ lo.toNat ∧ lo.toNat ≤ hi.toNat := by
  have hlo := rankOf_eq_some_iff lo
  have hhi := rankOf_eq_some_iff hi
  unfold rangeArgs
  constructor
  · intro h
    cases hf : rankOf lo with
    | none => simp [hf] at h
    | some f =>
      cases hc : rankOf hi with
      | none => simp [hf, hc] at h
      | some c =>
        simp only [hf, hc, Option.ite_none_right_eq_some, Option.some.injEq, Prod.mk.injEq] at h
        obtain ⟨hle, rfl, rfl⟩ := h
        obtain ⟨hfv, h1⟩ := (hlo f).1 hf
        obtain ⟨hcv, -⟩ := (hhi c).1 hc
        exact ⟨hfv, hcv, h1, by rwa [Fin.le_def, hfv, hcv] at hle⟩
  · rintro ⟨hfv, hcv, h1, hle⟩
    have hfc : floor ≤ ceiling := by rwa [Fin.le_def, hfv, hcv]
    simp [(hlo floor).2 ⟨hfv, h1⟩, (hhi ceiling).2 ⟨hcv, by omega⟩, hfc]

theorem rangeArgs_of_range {lo hi : Byte} (h1 : 1 ≤ lo.toNat) (hle : lo.toNat ≤ hi.toNat) (h7 : hi.toNat ≤ 7) :
    rangeArgs [lo, hi] = some (⟨lo.toNat, by omega⟩, ⟨hi.toNat, by omega⟩) :=
  (rangeArgs_eq_some_iff lo hi _ _).2 ⟨rfl, rfl, h1, hle⟩

theorem rangeArgs_none {lo hi : Byte} (h : ¬ (1 ≤ lo.toNat ∧ lo.toNat ≤ hi.toNat ∧ hi.toNat ≤ 7)) :
    rangeArgs [lo, hi] = none := by
  refine Option.eq_none_iff_forall_ne_some.2 fun ⟨floor, ceiling⟩ hr => h ?_
  obtain ⟨-, hc, h1, hle⟩ := (rangeArgs_eq_some_iff lo hi floor ceiling).1 hr
  exact ⟨h1, hle, by omega⟩

/-! ## The best source (R49) -/

theorem State.first_concat (s : State) (l : List (SourceIx × Source)) (q : SourceIx × Source) :
    s.first (l ++ [q]) = s.pick (s.first l) q := by
  rw [State.first, List.foldl_concat]
  rfl

theorem State.first_mem {s : State} {l : List (SourceIx × Source)} {r : SourceIx × Source} (h : s.first l = some r) :
    r ∈ l := by
  induction l using List.reverseRecOn with
  | nil => simp [State.first] at h
  | append_singleton l q ih =>
    rw [State.first_concat] at h
    cases hl : s.first l with
    | none => simp_all [State.pick]
    | some p =>
      simp only [hl, State.pick] at h
      split at h
      · simp_all
      · exact List.mem_append_left _ (ih (hl.trans h))

/-- A source that comes before every other of a list is the first of the list, wherever it stands in it. -/
theorem State.first_eq_of_before {s : State} {l : List (SourceIx × Source)} {p : SourceIx × Source} (hp : p ∈ l)
    (hb : ∀ q ∈ l, q ≠ p → s.before p q = true) : s.first l = some p := by
  induction l using List.reverseRecOn with
  | nil => simp at hp
  | append_singleton l q ih =>
    have hbl : ∀ r ∈ l, r ≠ p → s.before p r = true := fun r hr => hb r (List.mem_append_left _ hr)
    rw [State.first_concat]
    by_cases hq : q = p
    · subst hq
      cases hl : s.first l with
      | none => rfl
      | some r =>
        by_cases hr : r = q
        · simp [State.pick, hr]
        · simp [State.pick, hbl r (State.first_mem hl) hr]
    · have hpl : p ∈ l := by simpa [Ne.symm hq] using hp
      have hpq : s.before p q = true := hb q (by simp) hq
      have hqp : ¬ s.before q p = true := fun hqp =>
        State.precedes_asymm ((s.before_iff p q).1 hpq) ((s.before_iff q p).1 hqp)
      simp [ih hpl hbl, State.pick, hqp]

theorem State.best_eq_of_precedes {s : State} {P : SourceIx → Source → Bool} {i : SourceIx} {a : Source}
    (hs : s.source i = some a) (hP : P i a = true)
    (hfirst : ∀ (j : SourceIx) (b : Source), s.source j = some b → P j b = true → j ≠ i → s.Precedes i a j b) :
    s.best P = some (i, a) := by
  refine State.first_eq_of_before (by simp [s.mem_loaded, hs, hP]) fun ⟨j, b⟩ hq hne => ?_
  obtain ⟨hjl, hPj⟩ := List.mem_filter.1 hq
  have hj : s.source j = some b := (s.mem_loaded j b).1 hjl
  refine (s.before_iff _ _).2 (hfirst j b hj hPj fun hji => hne ?_)
  subst hji
  rw [Option.some.inj (hs.symm.trans hj)]

theorem State.best_eq_none {s : State} {P : SourceIx → Source → Bool}
    (h : ∀ (j : SourceIx) (b : Source), s.source j = some b → P j b = false) : s.best P = none := by
  have hnil : (s.loaded.filter fun p => P p.1 p.2) = [] :=
    List.filter_eq_nil_iff.2 fun ⟨j, b⟩ hj => by simp [h j b ((s.mem_loaded j b).1 hj)]
  rw [State.best, hnil]
  rfl

/-- The model's eligibility of a loaded source is that of R50. -/
theorem State.eligible_iff {s : State} {i : SourceIx} {a : Source} (hs : s.source i = some a) (k : AgentId)
    (floor ceiling : Rank) :
    s.eligible k floor ceiling i a = true ↔ s.Eligible k floor.val ceiling.val i a := by
  simp only [State.eligible, Source.waitsFor, Source.routedTo, Bool.and_eq_true, Bool.not_eq_true',
    decide_eq_true_eq, Fin.le_def, and_assoc, State.Eligible, hs, true_and]

/-! ## JOIN (R65, R66) -/

theorem State.roleAfterJoin_eq (s : State) (k : AgentId) (a : JoinArgs) :
    s.roleAfterJoin k a = if a.wantRole = true ∧ s.role = none then some k else s.role := by
  simp [State.roleAfterJoin]

theorem State.joinStatus_eq (s : State) (k : AgentId) (a : JoinArgs) :
    s.joinStatus k a = if a.wantRole = true ∧ s.roleAfterJoin k a ≠ some k then .roleTaken else .ok := by
  simp [State.joinStatus]

theorem joinAct_of_joined {s : State} {k : AgentId} (args : List Byte) (h : s.Joined k) :
    joinAct k args s = (s, { status := .alreadyJoined }) := by
  rw [joinAct, if_pos ((Agent.attached_iff _).2 h)]
  rfl

theorem joinAct_of_badArgument {s : State} {k : AgentId} {args : List Byte} (h : (s.agent k).session = .detached)
    (ha : joinArgs args = none) : joinAct k args s = (s, { status := .badArgument }) := by
  have hd := (Agent.not_attached_iff _).2 h
  simp [joinAct, hd, ha, Reply.bare]

theorem joinAct_of_detached {s : State} {k : AgentId} {args : List Byte} {a : JoinArgs}
    (h : (s.agent k).session = .detached) (ha : joinArgs args = some a) :
    joinAct k args s = (({ s with role := s.roleAfterJoin k a }.setAgent k (Agent.joined a)).reEvaluate k,
      { status := s.joinStatus k a
        report := [s.mode.byte, flagByte s.retained, flagByte (decide (s.roleAfterJoin k a = some k))] }) := by
  have hd := (Agent.not_attached_iff _).2 h
  simp only [joinAct, hd, ha]
  rfl

/-- JOIN has no need of session, role or mode: with 5 argument bytes the claim unit decides it. -/
theorem exec_join {s : State} {f : Frame} {k : AgentId} {args : List Byte} (h : s.Sends f k (0x01#8 :: args))
    (hl : args.length = 5) : exec .join s = .next ((joinAct k args s).1.answer f (joinAct k args s).2) :=
  serve_of_sends .join joinAct args h (by simp [ReqCode.wellFormed, ReqCode.clearOption, ReqCode.len, hl])
    nofun nofun nofun

/-- Settles O13: the equation of the claim unit for each case of a JOIN. -/
theorem joinAttaches : Obligations.JoinAttaches := by
  refine ⟨?accepted, ?joined, ?badArgument⟩
  case accepted =>
    intro s f k mask limit notice want h hd hlimit
    rw [exec_join h rfl, List.append_eq, joinAct_of_detached hd (joinArgs_of_bytes mask limit notice want hlimit),
      State.joinStatus_eq, State.roleAfterJoin_eq]
    rfl
  case joined =>
    intro s f k m hi lo n w h hj
    rw [exec_join h rfl, joinAct_of_joined _ hj]
  case badArgument =>
    intro s f k m hi lo n w h hd hbad
    rw [exec_join h rfl, joinAct_of_badArgument hd (joinArgs_none m hi lo n w hbad)]

/-! ## SET-MASK (R69) -/

theorem setMaskAct_of_badArgument (s : State) (k : AgentId) {m : Byte} (h : 7 < m.toNat) :
    setMaskAct k [m] s = (s, { status := .badArgument }) := by
  simp [setMaskAct, maskArg, below_none m (n := 8) h, Reply.bare]

/-- The attention rank reported after the re-evaluation is the one before it: a re-evaluation changes none. -/
theorem setMaskAct_of_mask (s : State) (k : AgentId) (mask : Rank) :
    setMaskAct k [byteOf mask.val] s =
      let t := s.modAgent k fun a => { a with mask := mask }
      (t.reEvaluate k, { status := .ok, report := [byteOf (t.attention k).val] }) := by
  simp [setMaskAct, maskArg, below_byteOf (by omega : 8 ≤ 256) mask, Reply.done]

theorem exec_setMask {s : State} {f : Frame} {k : AgentId} {m : Byte} (h : s.Sends f k [0x03#8, m])
    (hj : s.Joined k) :
    exec .setMask s = .next ((setMaskAct k [m] s).1.answer f (setMaskAct k [m] s).2) :=
  serve_of_sends .setMask setMaskAct [m] h rfl (fun _ => hj) nofun nofun

/-- Settles O15: the common checks, then the two cases of the claim unit. -/
theorem setMaskReEvaluates : Obligations.SetMaskReEvaluates := by
  refine ⟨fun s f k m h => ⟨fun hj => ?notJoined, fun hj hm => ?badArgument⟩, fun s f k mask h hj => ?masked⟩
  case notJoined => exact serve_notJoined (c := .setMask) setMaskAct h rfl rfl hj
  case badArgument => rw [exec_setMask h hj, setMaskAct_of_badArgument s k hm]
  case masked =>
    rw [exec_setMask h hj, setMaskAct_of_mask]
    rfl

/-! ## PEEK (R75) -/

theorem peekAct_of_badArgument (s : State) (k : AgentId) {args : List Byte} (h : rangeArgs args = none) :
    peekAct k args s = (s, { status := .badArgument }) := by
  simp [peekAct, h, Reply.bare]

theorem peekAct_of_none {s : State} {k : AgentId} {args : List Byte} {floor ceiling : Rank}
    (h : rangeArgs args = some (floor, ceiling)) (hb : s.best (s.eligible k floor ceiling) = none) :
    peekAct k args s = (s, { status := .none }) := by
  simp [peekAct, h, hb, Reply.bare]

theorem peekAct_of_best {s : State} {k : AgentId} {args : List Byte} {floor ceiling : Rank} {i : SourceIx}
    {a : Source} (h : rangeArgs args = some (floor, ceiling))
    (hb : s.best (s.eligible k floor ceiling) = some (i, a)) :
    peekAct k args s = (s, {
      status := .ok
      report := [byteOf i.val, byteOf a.config.node.val, byteOf a.config.channel.val,
        byteOf (s.effectiveRank i a).val] }) := by
  simp [peekAct, h, hb, Reply.done]

theorem exec_peek {s : State} {f : Frame} {k : AgentId} {lo hi : Byte} (h : s.Sends f k [0x06#8, lo, hi])
    (hj : s.Joined k) (hm : s.mode = .run) :
    exec .peek s = .next ((peekAct k [lo, hi] s).1.answer f (peekAct k [lo, hi] s).2) :=
  serve_of_sends .peek peekAct [lo, hi] h rfl (fun _ => hj) nofun fun _ he => hm.trans (Option.some.inj he)

/-- Settles O19: the common checks, then the range, and then the choice of the best source, which is the eligible one
that comes first. -/
theorem peekNamesBest : Obligations.PeekNamesBest := by
  intro s f k lo hi h
  refine ⟨fun hj => ?notJoined, fun hj hm => ?mode, fun hj hm hr => ?badArgument, fun hj hm hr hnone => ?none,
    fun hj hm hr i a he hfirst => ?ok⟩
  case notJoined => exact serve_notJoined (c := .peek) peekAct h rfl rfl hj
  case mode => exact serve_wrongMode (c := .peek) peekAct h rfl hj rfl rfl hm
  case badArgument => rw [exec_peek h hj hm, peekAct_of_badArgument s k (rangeArgs_none hr)]
  case none =>
    obtain ⟨h1, hle, h7⟩ := hr
    have hb := State.best_eq_none (s := s) (P := s.eligible k ⟨lo.toNat, by omega⟩ ⟨hi.toNat, by omega⟩)
      fun j b hs => Bool.eq_false_iff.2 fun hp => hnone j b ((State.eligible_iff hs k _ _).1 hp)
    rw [exec_peek h hj hm, peekAct_of_none (rangeArgs_of_range h1 hle h7) hb]
  case ok =>
    obtain ⟨h1, hle, h7⟩ := hr
    have hb := State.best_eq_of_precedes (P := s.eligible k ⟨lo.toNat, by omega⟩ ⟨hi.toNat, by omega⟩) he.1
      ((State.eligible_iff he.1 k _ _).2 he) fun j b hs hp hne => hfirst j b ((State.eligible_iff hs k _ _).1 hp) hne
    rw [exec_peek h hj hm, peekAct_of_best (rangeArgs_of_range h1 hle h7) hb]

/-! ## DONE (R76, R77) -/

/-- The state a completion leaves follows from the reasons (R41, R22). -/
theorem Source.complete_status_byte (a : Source) :
    a.complete.status.byte = if a.active = true then 0x01#8 else 0x00#8 := by
  cases h : a.active <;> simp [Source.complete, Source.implied, h, Status.byte]

theorem State.statusByte_changeSource {s : State} {i : SourceIx} {a : Source} (f : Source → Source)
    (h : s.source i = some a) : (s.changeSource i f).statusByte i = (f a).status.byte := by
  simp [State.statusByte, State.source_changeSource, h]

theorem Agent.claimOn_isSome (a : Agent) (i : SourceIx) :
    (a.claimOn i).isSome = true ↔ ∃ c ∈ a.claims, c.source = i := by
  simp [Agent.claimOn]

theorem doneAct_of_claim {s : State} {k : AgentId} {i : SourceIx} {a : Source} (hs : s.source i = some a)
    (hc : ∃ c ∈ (s.agent k).claims, c.source = i) :
    doneAct k [byteOf i.val] s = ((s.modAgent k (Agent.dropClaim i)).changeSource i Source.complete,
      { status := .ok, report := [if a.active = true then 0x01#8 else 0x00#8] }) := by
  obtain ⟨c, hc⟩ := Option.isSome_iff_exists.1 ((Agent.claimOn_isSome _ i).2 hc)
  have hs' : (s.modAgent k (Agent.dropClaim i)).source i = some a := hs
  simp [doneAct, indexArg, indexOf_byteOf, hc, State.statusByte_changeSource _ hs', Source.complete_status_byte,
    Reply.done]

/-- Without a claim the stale marks decide, and nothing changes (R76). -/
theorem doneAct_of_noClaim {s : State} {k : AgentId} {i : SourceIx} (hc : ∀ c ∈ (s.agent k).claims, c.source ≠ i) :
    doneAct k [byteOf i.val] s = (s, { status := if i ∈ (s.agent k).marks then .late else .notHeld }) := by
  have hn := (Agent.claimOn_none _ i).2 hc
  by_cases hm : i ∈ (s.agent k).marks <;> simp [doneAct, indexArg, indexOf_byteOf, hn, hm, Reply.bare]

theorem exec_done {s : State} {f : Frame} {k : AgentId} {b : Byte} (h : s.Sends f k [0x07#8, b]) (hj : s.Joined k)
    (hm : s.mode = .run) :
    exec .done s = .next ((doneAct k [b] s).1.answer f (doneAct k [b] s).2) :=
  serve_of_sends .done doneAct [b] h rfl (fun _ => hj) nofun fun _ he => hm.trans (Option.some.inj he)

/-- Settles O20: the common checks, then the claim list, then the stale marks. -/
theorem doneAnswers : Obligations.DoneAnswers := by
  intro s f k i h
  refine ⟨fun hj => ?notJoined, fun hj hm => ?mode, fun hj hm a hs hc => ?ok, fun hj hm hc hmark => ?late,
    fun hj hm hc hmark => ?notHeld⟩
  case notJoined => exact serve_notJoined (c := .done) doneAct h rfl rfl hj
  case mode => exact serve_wrongMode (c := .done) doneAct h rfl hj rfl rfl hm
  case ok =>
    rw [exec_done h hj hm, doneAct_of_claim hs hc]
    rfl
  case late => rw [exec_done h hj hm, doneAct_of_noClaim hc, if_pos hmark]
  case notHeld => rw [exec_done h hj hm, doneAct_of_noClaim hc, if_neg hmark]

end Sys2Proof.Machine
end

section
/-! PROOFS. The contact input block (Chapter 6): SET-CONTACT. First what its arguments read as, the new record and the
report of a change of activity; then one equation for each case of the block's act. -/

namespace Sys2Proof.Machine

open Sys2Proof

/-! ## What the arguments read as (R120) -/

theorem contactArgs_of_bytes (n : Channel) (enabled invert : Bool) (length : Fin 16) :
    contactArgs [byteOf n.val, flagByte enabled, flagByte invert, byteOf length.val] =
      some { input := n, enabled, invert, length } := by
  simp [contactArgs, below_byteOf (by omega : 16 ≤ 256)]

/-- Each of the four arguments of a SET-CONTACT can be the one out of range. -/
theorem contactArgs_none {n e v l : Byte} (h : 15 < n.toNat ∨ 1 < e.toNat ∨ 1 < v.toNat ∨ 15 < l.toNat) :
    contactArgs [n, e, v, l] = none := by
  unfold contactArgs
  rcases h with hn | he | hv | hl
  · simp [below_none n (n := 16) hn]
  · simp [flagOf_none e he]
  · simp [flagOf_none v hv]
  · simp [below_none l (n := 16) hl]

/-! ## The new record (R120 to R122) -/

/-- An input is off after a SET-CONTACT exactly when the request disables it (R121). -/
theorem Contact.refilter_eq_off_iff (c : Contact) (enabled : Bool) (length : Fin 16) :
    c.refilter enabled length = .off ↔ enabled = false := by
  cases enabled with
  | false => simp [Contact.refilter]
  | true =>
    cases hf : c.filter with
    | off => simp [Contact.refilter, hf]
    | opening => simp [Contact.refilter, hf]
    | settling runLevel run => by_cases hl : length = c.length <;> simp [Contact.refilter, hf, hl]
    | settled level run => by_cases hl : length = c.length <;> simp [Contact.refilter, hf, hl]

theorem Contact.enabled_configure (c : Contact) (a : ContactArgs) : (c.configure a).enabled = a.enabled := by
  simp [Contact.enabled, Contact.configure, Contact.refilter_eq_off_iff]

/-- The report of a SET-CONTACT gives back the fields of the request, with the filter and the activity they lead to. -/
theorem Contact.report_configure (c : Contact) (a : ContactArgs) :
    (c.configure a).report = [flagByte a.enabled, flagByte a.invert, byteOf a.length.val,
      (c.refilter a.enabled a.length).byte, flagByte (c.configure a).active] := by
  rw [Contact.report, Contact.enabled_configure]
  rfl

/-! ## The report of a change of activity (R119, R120) -/

/-- In STANDBY nothing is reported; in RUN a change of activity is a transition of node 0. -/
theorem State.contactReport_activityReport (s : State) (n : Channel) (before after : Bool) :
    s.contactReport n (activityReport before after) =
      if s.mode = .standby then s
      else if before = false ∧ after = true then s.nodeTransition 0 n .raise
      else if before = true ∧ after = false then s.nodeTransition 0 n .fall
      else s := by
  cases hm : s.mode with
  | standby => simp [State.contactReport, hm]
  | run => cases before <;> cases after <;> simp [State.contactReport, activityReport, hm]

/-! ## SET-CONTACT (R120 to R122) -/

theorem setContactAct_of_badArgument (s : State) (k : AgentId) {args : List Byte} (h : contactArgs args = none) :
    setContactAct k args s = (s, { status := .badArgument }) := by
  simp [setContactAct, h, Reply.bare]

theorem setContactAct_of_args (s : State) (k : AgentId) {args : List Byte} {a : ContactArgs}
    (h : contactArgs args = some a) :
    setContactAct k args s =
      let c := (s.contacts[a.input]).configure a
      (s.changeContact a.input c, { status := .ok, report := c.report }) := by
  simp [setContactAct, h, Reply.done]

/-- SET-CONTACT needs the role and is taken in either mode: with 4 argument bytes the contact input block decides it. -/
theorem exec_setContact {s : State} {f : Frame} {k : AgentId} {n e v l : Byte} (h : s.Sends f k [0x14#8, n, e, v, l])
    (hm : s.Manages k) :
    exec .setContact s =
      .next ((setContactAct k [n, e, v, l] s).1.answer f (setContactAct k [n, e, v, l] s).2) := by
  obtain ⟨hj, hr⟩ := hm
  exact serve_of_sends .setContact setContactAct [n, e, v, l] h rfl (fun _ => hj) (fun _ => hr) nofun

/-- Settles O37: the common checks pass, and the arguments read as a configuration or one of them is out of range. The
filter, record and state of the statement are those of the model's `refilter`, `configure` and `changeContact`. -/
theorem setContactConfigures : Obligations.SetContactConfigures := by
  refine ⟨?configured, ?badArgument⟩
  case configured =>
    intro s f k n enabled invert length h hm old filter new t u
    have hfilter : filter = old.refilter enabled length := by
      unfold filter Contact.refilter
      cases enabled with
      | false => rfl
      | true => cases old.filter <;> rfl
    have hnew : old.configure { input := n, enabled, invert, length } = new := by
      rw [Contact.configure, ← hfilter]
    have hu : s.changeContact n new = u := t.contactReport_activityReport n old.active new.active
    rw [exec_setContact h hm, setContactAct_of_args s k (contactArgs_of_bytes n enabled invert length)]
    dsimp only
    rw [Contact.report_configure, hnew, hu, ← hfilter]
    rfl
  case badArgument =>
    intro s f k n e v l h hm hbad
    rw [exec_setContact h hm, setContactAct_of_badArgument s k (contactArgs_none hbad)]

end Sys2Proof.Machine
end

section
/-! PROOFS. Ranking and attention (Chapter 3): the best source, the attention rank, re-evaluation. -/

namespace Sys2Proof.Machine

open Sys2Proof

/-! ## The first of a numbered list -/

/-- A search over the numbers below `n` finds the lowest that meets the condition. -/
theorem find?_finRange_eq_some {n : Nat} {p : Fin n → Bool} {i : Fin n} :
    (List.finRange n).find? p = some i ↔ p i = true ∧ ∀ j < i, p j = false := by
  rw [List.find?_eq_some_iff_getElem]
  constructor
  · rintro ⟨hp, m, hm, rfl, hlow⟩
    refine ⟨hp, fun j hj => ?_⟩
    have hjm : j.val < m := by simpa [Fin.lt_def] using hj
    simpa using hlow j.val hjm
  · rintro ⟨hp, hlow⟩
    refine ⟨hp, i.val, by simp, by simp, fun j hj => ?_⟩
    simpa using hlow ⟨j, by omega⟩ hj

theorem find?_finRange_eq_none {n : Nat} {p : Fin n → Bool} :
    (List.finRange n).find? p = none ↔ ∀ j, p j = false := by
  simp [List.find?_eq_none]

/-! ## The best source (R49) -/

/-- The first of a list whose indexes are distinct comes before all the others of the list. -/
theorem State.before_of_first {s : State} {l : List (SourceIx × Source)} (hn : (l.map Prod.fst).Nodup)
    {p : SourceIx × Source} (h : s.first l = some p) : ∀ q ∈ l, q.1 ≠ p.1 → s.before p q = true := by
  induction l using List.reverseRecOn generalizing p with
  | nil => simp [State.first] at h
  | append_singleton l q ih =>
    have hnl : (l.map Prod.fst).Nodup := (List.nodup_append.1 (by simpa using hn)).1
    rw [State.first_concat] at h
    cases hl : s.first l with
    | none =>
      obtain rfl : l = [] := by
        cases l using List.reverseRecOn with
        | nil => rfl
        | append_singleton l r =>
          rw [State.first_concat] at hl
          cases hf : s.first l with
          | none => simp [hf, State.pick] at hl
          | some m => by_cases hb : s.before r m = true <;> simp [hf, State.pick, hb] at hl
      intro r hr hne
      obtain rfl : r = q := by simpa using hr
      obtain rfl : r = p := by simpa [hl, State.pick] using h
      exact absurd rfl hne
    | some m =>
      have hm := ih hnl hl
      by_cases hb : s.before q m = true
      · obtain rfl : q = p := by simpa [hl, State.pick, hb] using h
        intro r hr hne
        rcases List.mem_append.1 hr with hr | hr
        · by_cases hrm : r.1 = m.1
          · have : r = m := by
              have hml := State.first_mem hl
              exact List.inj_on_of_nodup_map hnl hr hml hrm
            rwa [this]
          · exact (s.before_iff _ _).2
              (State.precedes_trans ((s.before_iff _ _).1 hb) ((s.before_iff _ _).1 (hm r hr hrm)))
        · exact absurd (by simpa using congrArg Prod.fst (List.mem_singleton.1 hr)) hne
      · obtain rfl : m = p := by simpa [hl, State.pick, hb] using h
        intro r hr hne
        rcases List.mem_append.1 hr with hr | hr
        · exact hm r hr hne
        · obtain rfl := List.mem_singleton.1 hr
          rcases s.precedes_total m.2 r.2 (Ne.symm hne) with hp | hp
          · exact (s.before_iff _ _).2 hp
          · exact absurd ((s.before_iff _ _).2 hp) hb

/-- What the best source is: it is loaded, meets the condition and precedes every other source that does (R49). -/
theorem State.best_eq_some_iff (s : State) (P : SourceIx → Source → Bool) (i : SourceIx) (a : Source) :
    s.best P = some (i, a) ↔ s.source i = some a ∧ P i a = true ∧
      ∀ (j : SourceIx) (b : Source), s.source j = some b → P j b = true → j ≠ i → s.Precedes i a j b := by
  constructor
  · intro h
    obtain ⟨hl, hP⟩ := List.mem_filter.1 (State.first_mem h)
    have hn : ((s.loaded.filter fun p => P p.1 p.2).map Prod.fst).Nodup :=
      s.loaded_nodup.sublist (List.filter_sublist.map _)
    refine ⟨(s.mem_loaded i a).1 hl, hP, fun j b hs hPj hne => ?_⟩
    exact (s.before_iff _ _).1
      (State.before_of_first hn h (j, b) (List.mem_filter.2 ⟨(s.mem_loaded j b).2 hs, hPj⟩) hne)
  · rintro ⟨hs, hP, hfirst⟩
    exact State.best_eq_of_precedes hs hP hfirst

theorem State.best_eq_none_iff (s : State) (P : SourceIx → Source → Bool) :
    s.best P = none ↔ ∀ (j : SourceIx) (b : Source), s.source j = some b → P j b = false := by
  refine ⟨fun h j b hs => ?_, State.best_eq_none⟩
  cases hP : P j b with
  | false => rfl
  | true =>
    have hmem : (j, b) ∈ s.loaded.filter fun p => P p.1 p.2 := List.mem_filter.2 ⟨(s.mem_loaded j b).2 hs, hP⟩
    rw [State.best] at h
    generalize s.loaded.filter (fun p => P p.1 p.2) = l at h hmem
    cases l using List.reverseRecOn with
    | nil => simp at hmem
    | append_singleton l r =>
      rw [State.first_concat] at h
      cases hf : s.first l with
      | none => simp [hf, State.pick] at h
      | some m => by_cases hb : s.before r m = true <;> simp [hf, State.pick, hb] at h

/-- Settles O8: the fold over the loaded sources keeps the one that precedes all it has seen. -/
theorem bestSourceComesFirst : Obligations.BestSourceComesFirst :=
  fun s P => ⟨s.best_eq_some_iff P, s.best_eq_none_iff P⟩

/-! ## Effective rank and attention (R48, R57) -/

theorem State.promoSlot_eq_some_iff (s : State) (i : SourceIx) (p : PromoSlot) :
    s.promoSlot i = some p ↔ s.promotion[p] = some i ∧ ∀ q : PromoSlot, q < p → s.promotion[q] ≠ some i := by
  rw [State.promoSlot, find?_finRange_eq_some]
  simp

theorem State.promoSlot_isSome_iff (s : State) (i : SourceIx) :
    (s.promoSlot i).isSome = true ↔ ∃ p : PromoSlot, s.promotion[p] = some i := by
  rw [← not_iff_not, Bool.not_eq_true, Option.isSome_eq_false_iff, Option.isNone_iff_eq_none, s.promoSlot_none]
  simp

theorem State.effectiveRank_eq (s : State) (i : SourceIx) (a : Source) :
    s.effectiveRank i a = if ∃ p : PromoSlot, s.promotion[p] = some i then 6 else a.config.rank := by
  unfold State.effectiveRank
  by_cases h : ∃ p : PromoSlot, s.promotion[p] = some i
  · rw [if_pos h, if_pos ((s.promoSlot_isSome_iff i).2 h)]
  · rw [if_neg h, if_neg fun hs => h ((s.promoSlot_isSome_iff i).1 hs)]

/-- The model's condition of attention is that of R57. -/
theorem State.raises_iff {s : State} {i : SourceIx} {a : Source} (hs : s.source i = some a) (k : AgentId) :
    s.raises k i a = true ↔ s.Counts k i a := by
  simp only [State.raises, Source.waitsFor, Source.routedTo, Bool.and_eq_true, Bool.or_eq_true, Bool.not_eq_true',
    decide_eq_true_eq, and_assoc, State.Counts, hs, true_and]

theorem State.attention_of_detached {s : State} {k : AgentId} (h : (s.agent k).session = .detached) :
    s.attention k = 0 := by
  simp [State.attention, (Agent.not_attached_iff _).2 h]

theorem State.effectiveRank_le_attention {s : State} {k : AgentId} (h : (s.agent k).session = .attached)
    {i : SourceIx} {a : Source} (hc : s.Counts k i a) : s.effectiveRank i a ≤ s.attention k := by
  have hs : s.source i = some a := hc.1
  have hr : s.raises k i a = true := (State.raises_iff hs k).2 hc
  rw [State.attention, if_pos ((Agent.attached_iff _).2 h)]
  cases hb : s.best (s.raises k) with
  | none => rw [(s.best_eq_none_iff _).1 hb i a hs] at hr; exact absurd hr (by simp)
  | some p =>
    obtain ⟨j, b⟩ := p
    obtain ⟨hj, -, hfirst⟩ := (s.best_eq_some_iff _ j b).1 hb
    by_cases hij : i = j
    · subst hij
      rw [Option.some.inj (hs.symm.trans hj)]
    · rcases hfirst i a hs hr hij with hlt | ⟨heq, -⟩
      · exact le_of_lt hlt
      · exact le_of_eq heq

theorem State.attention_attained {s : State} {k : AgentId} (h : (s.agent k).session = .attached)
    (hne : s.attention k ≠ 0) :
    ∃ (i : SourceIx) (a : Source), s.Counts k i a ∧ s.effectiveRank i a = s.attention k := by
  rw [State.attention, if_pos ((Agent.attached_iff _).2 h)] at hne ⊢
  cases hb : s.best (s.raises k) with
  | none => rw [hb] at hne; exact absurd rfl hne
  | some p =>
    obtain ⟨i, a⟩ := p
    obtain ⟨hs, hr, -⟩ := (s.best_eq_some_iff _ i a).1 hb
    exact ⟨i, a, (State.raises_iff hs k).1 hr, rfl⟩

/-- Settles O9: the attention rank is the effective rank of the best source that counts. -/
theorem attentionRank : Obligations.AttentionRank :=
  ⟨State.promoSlot_eq_some_iff, State.effectiveRank_eq, fun _ _ h => State.attention_of_detached h,
    fun _ _ h => ⟨fun _ _ hc => State.effectiveRank_le_attention h hc, fun hne => State.attention_attained h hne⟩⟩

/-- A source of one state has a source of the other at its index, alike in what attention looks at. -/
def State.SameWaiting (s t : State) : Prop :=
  ∀ (i : SourceIx) (a : Source), s.source i = some a →
    ∃ b, t.source i = some b ∧ b.config = a.config ∧ b.status = a.status

/-- The attention rank looks at the configurations and states of the sources, the promotion table, and the agent's
session and mask (R57). -/
theorem State.attention_le {s t : State} {k : AgentId} (hst : s.SameWaiting t)
    (hp : s.promotion = t.promotion) (hm : (s.agent k).mask = (t.agent k).mask)
    (hs : (s.agent k).session = (t.agent k).session) : s.attention k ≤ t.attention k := by
  cases hk : (s.agent k).session with
  | detached => rw [State.attention_of_detached hk]; exact Fin.zero_le _
  | attached =>
    by_cases h0 : s.attention k = 0
    · rw [h0]; exact Fin.zero_le _
    · obtain ⟨i, a, ⟨hi, hpend, hblock, hroute, habove⟩, hr⟩ := State.attention_attained hk h0
      obtain ⟨b, hb, hcfg, hst⟩ := hst i a hi
      have hrank : t.effectiveRank i b = s.effectiveRank i a := by
        rw [← State.effectiveRank_congr hp, State.effectiveRank, State.effectiveRank, hcfg]
      rw [← hr, ← hrank]
      refine State.effectiveRank_le_attention (hs ▸ hk) ⟨hb, hst.trans hpend, hcfg ▸ hblock, hcfg ▸ hroute, ?_⟩
      rw [hrank, ← hm]
      exact habove

theorem State.attention_eq_of_sameWaiting {s t : State} {k : AgentId} (h : s.SameWaiting t) (h' : t.SameWaiting s)
    (hp : s.promotion = t.promotion) (hm : (s.agent k).mask = (t.agent k).mask)
    (hs : (s.agent k).session = (t.agent k).session) : s.attention k = t.attention k :=
  le_antisymm (State.attention_le h hp hm hs) (State.attention_le h' hp.symm hm.symm hs.symm)

/-! ## Re-evaluation (R59, R60) -/

theorem State.evaluated_eq_ite (s : State) (k : AgentId) : s.evaluated k =
    if (s.agent k).session = .attached ∧ s.attention k ≠ (s.agent k).lastSent then { s.agent k with alert := true }
    else s.agent k := by
  simp [State.evaluated, Agent.attached]

/-- Settles O10: from the record a re-evaluation gives each agent, and the two cases of an event on a loaded source. -/
theorem reEvaluation : Obligations.ReEvaluation := by
  refine ⟨fun s k => ?record, fun _ => rfl, fun s k => ?one, fun s i f h => State.changeSource_vacant f h,
    fun s i f a h => ⟨fun hst => ?same, fun hst => ?changed⟩⟩
  case record => rw [State.agent_reEvaluateAll, State.evaluated_eq_ite]
  case one => rw [State.agent_reEvaluateAll]; rfl
  case same => rw [State.changeSource_loaded f h, if_pos hst]; rfl
  case changed => rw [State.changeSource_loaded f h, if_neg hst]; rfl

end Sys2Proof.Machine
end

section
/-! PROOFS. The acts of the blocks that own the requests, in one list: what each can come to, with the facts that its
checks give. -/

namespace Sys2Proof.Machine

open Sys2Proof

/-! ## Requests and the other commands -/

/-- The act of the block that owns a request. -/
def ReqCode.own : ReqCode → AgentId → List Byte → State → State × Reply
  | .join => joinAct
  | .leave => leaveAct
  | .setMask => setMaskAct
  | .readAgent => readAgentAct
  | .claim => claimAct
  | .peek => peekAct
  | .done => doneAct
  | .putPromotion => putPromotionAct
  | .clearPromotion => clearPromotionAct
  | .putSource => putSourceAct
  | .dropSource => dropSourceAct
  | .block => blockAct
  | .unblock => unblockAct
  | .readSource => readSourceAct
  | .force => forceAct
  | .release => releaseAct
  | .putNode => putNodeAct
  | .dropNode => dropNodeAct
  | .readNode => readNodeAct
  | .setContact => setContactAct
  | .setTiming => setTimingAct
  | .readPart => readPartAct
  | .resume => resumeAct
  | .restart => restartAct

/-- The row of a request is its taking, for its owning block. -/
theorem exec_row (c : ReqCode) (s : State) : exec c.row s = serve c c.own s := by cases c <;> rfl

/-- The commands: the rows of the requests, and the others. -/
inductive Instr.Kind : Instr → Prop where
  | request (c : ReqCode) : Kind c.row
  | undefinedRequestCode : Kind .undefinedRequestCode
  | foreignFrame : Kind .foreignFrame
  | trunkDataTaken : Kind .trunkDataTaken
  | trunkDataPlaced : Kind .trunkDataPlaced
  | evt : Kind .evt
  | state : Kind .state
  | fieldDataTaken : Kind .fieldDataTaken
  | fieldDataPlaced : Kind .fieldDataPlaced
  | strayFrame : Kind .strayFrame
  | moveNotice : Kind .moveNotice
  | placeSyncq : Kind .placeSyncq
  | resyncWaitExpiry (slot : Nat) : Kind (.resyncWaitExpiry slot)
  | serviceTimerExpiry (agent index : Nat) : Kind (.serviceTimerExpiry agent index)
  | sampleEvent (levels : BitVec 16) : Kind (.sampleEvent levels)
  | trunkTransmitter : Kind .trunkTransmitter
  | fieldTransmitter : Kind .fieldTransmitter
  | frameTransmitted (p : PortId) (v : BitVec 3) : Kind (.frameTransmitted p v)
  | frameReceived (p : PortId) (bytes : List Byte) : Kind (.frameReceived p bytes)
  | readyReceived (p : PortId) (count : Nat) : Kind (.readyReceived p count)
  | creditReceived (p : PortId) : Kind (.creditReceived p)
  | quietPhaseEnd (p : PortId) : Kind (.quietPhaseEnd p)
  | readyFill (p : PortId) : Kind (.readyFill p)
  | silenceTimeout (p : PortId) : Kind (.silenceTimeout p)
  | warmReset : Kind .warmReset
  | resetEnd (v : BitVec 3) : Kind (.resetEnd v)
  | powerOn (v : BitVec 3) (rstn : Bool) : Kind (.powerOn v rstn)

theorem Instr.kind (c : Instr) : Instr.Kind c := by
  cases c with
  | join => exact .request .join
  | leave => exact .request .leave
  | setMask => exact .request .setMask
  | readAgent => exact .request .readAgent
  | claim => exact .request .claim
  | peek => exact .request .peek
  | done => exact .request .done
  | putPromotion => exact .request .putPromotion
  | clearPromotion => exact .request .clearPromotion
  | putSource => exact .request .putSource
  | dropSource => exact .request .dropSource
  | block => exact .request .block
  | unblock => exact .request .unblock
  | readSource => exact .request .readSource
  | force => exact .request .force
  | release => exact .request .release
  | putNode => exact .request .putNode
  | dropNode => exact .request .dropNode
  | readNode => exact .request .readNode
  | setContact => exact .request .setContact
  | setTiming => exact .request .setTiming
  | readPart => exact .request .readPart
  | resume => exact .request .resume
  | restart => exact .request .restart
  | _ => constructor

/-! ## The arguments of the requests -/

/-- A configuration that a PUT-SOURCE carries has a rank of at least 1 (R4, R8 step 1). -/
theorem sourceArgs_rank {args : List Byte} {i : SourceIx} {g : SourceConfig} (h : sourceArgs args = some (i, g)) :
    g.rank ≠ 0 := by
  unfold sourceArgs at h
  split at h
  · split at h
    · rename_i r _ _ _ _ _ _ _ _ hr _ _ _
      simp only [Option.some.injEq, Prod.mk.injEq] at h
      obtain ⟨-, rfl⟩ := h
      simpa using (Option.filter_eq_some_iff.1 hr).2
    · simp at h
  · simp at h

/-- A DROP-NODE is for a field node (R110). -/
theorem fieldNodeArg_ne_zero {args : List Byte} {n : NodeId} (h : fieldNodeArg args = some n) : n ≠ 0 := by
  unfold fieldNodeArg at h
  split at h
  · simpa using (Option.filter_eq_some_iff.1 h).2
  · simp at h

/-- A SET-TIMING is carried out with values in range only (R108, R135). -/
theorem timingArgs_range {args : List Byte} {w t : Nat} (h : timingArgs args = some (w, t)) :
    (1 ≤ w ∧ w ≤ 255) ∧ 1 ≤ t ∧ t ≤ 7 := by
  unfold timingArgs at h
  split at h
  · rename_i b c
    split at h
    · cases h
      have := b.isLt
      omega
    · cases h
  · cases h

/-! ## What an act comes to -/

/-- The results of the act that agent `k`'s request `c` has in state `s`: a refusal, a report, or one change with its
report. -/
inductive Acted (s : State) (k : AgentId) : ReqCode → State × Reply → Prop where
  | refused {c : ReqCode} {st : ReplyStatus} (h : st.givenTo c = true) : Acted s k c (s, Reply.bare st)
  | reported {c : ReqCode} (report : List Byte) : Acted s k c (s, Reply.done report)
  | join (a : JoinArgs) (report : List Byte) (h : (s.agent k).attached = false) :
      Acted s k .join (({ s with role := s.roleAfterJoin k a }.setAgent k (Agent.joined a)).reEvaluate k,
        { status := s.joinStatus k a, report })
  | leave (report : List Byte) : Acted s k .leave (s.endSession k, Reply.done report)
  | setMask (m : Rank) (report : List Byte) :
      Acted s k .setMask ((s.modAgent k fun a => { a with mask := m }).reEvaluate k, Reply.done report)
  | claim (i : SourceIx) (a : Source) (report : List Byte) (hs : s.source i = some a) (hp : a.status = .pending)
      (hl : (s.agent k).claims.length < 8) : Acted s k .claim (s.grant k i a, Reply.done report)
  | done (i : SourceIx) (report : List Byte) (h : ((s.agent k).claimOn i).isSome = true) :
      Acted s k .done ((s.modAgent k (Agent.dropClaim i)).changeSource i Source.complete, Reply.done report)
  | putPromotion (p : PromoSlot) (i : SourceIx) (a : Source) (report : List Byte) (hs : s.source i = some a)
      (h0 : a.config.rank ≠ 0) (h7 : a.config.rank ≠ 7) (hq : ∀ q : PromoSlot, q ≠ p → s.promotion[q] ≠ some i) :
      Acted s k .putPromotion ((s.setPromotion p (some i)).reEvaluateAll, Reply.done report)
  | clearPromotion (p : PromoSlot) (report : List Byte) :
      Acted s k .clearPromotion ((s.setPromotion p none).reEvaluateAll, Reply.done report)
  | load (i : SourceIx) (g : SourceConfig) (r : Node) (report : List Byte) (hs : s.source i = none)
      (hn : s.node g.node = some r) (hkey : s.keyElsewhere i g = false) (h0 : g.rank ≠ 0)
      (h7 : g.rank = 7 → g.cls = .edge) :
      Acted s k .putSource ((s.setSource i (some (s.newSource g r))).reEvaluateAll, Reply.done report)
  | update (i : SourceIx) (g : SourceConfig) (a : Source) (report : List Byte) (hs : s.source i = some a)
      (hnode : a.config.node = g.node) (hchan : a.config.channel = g.channel) (h0 : g.rank ≠ 0)
      (h7 : g.rank = 7 → g.cls = .edge) (hbusy : g.cls ≠ a.config.cls → a.status = .idle)
      (hpromo : g.rank = 7 → s.promoSlot i = none) :
      Acted s k .putSource ((s.setSource i (some (a.update g))).reEvaluateAll, Reply.done report)
  | dropSource (i : SourceIx) (a : Source) (report : List Byte) (hs : s.source i = some a) :
      Acted s k .dropSource ((((s.setSource i none).unpromote i).withdraw i a).reEvaluateAll, Reply.done report)
  | block (i : SourceIx) (a : Source) (report : List Byte) (hs : s.source i = some a) :
      Acted s k .block (s.setBlocked i true a, Reply.done report)
  | unblock (i : SourceIx) (a : Source) (report : List Byte) (hs : s.source i = some a) :
      Acted s k .unblock (s.setBlocked i false a, Reply.done report)
  | force (i : SourceIx) (report : List Byte) :
      Acted s k .force (s.changeSource i (Source.setForced true), Reply.done report)
  | release (i : SourceIx) (report : List Byte) :
      Acted s k .release (s.changeSource i (Source.setForced false), Reply.done report)
  | lossSource (n : NodeId) (o : Option SourceIx) (r : Node) (report : List Byte) (hn : s.node n = some r) :
      Acted s k .putNode (s.setNode n (some { r with lossSource := o }), Reply.done report)
  | create (n : NodeId) (o : Option SourceIx) (report : List Byte) (hn : s.node n = none) :
      Acted s k .putNode (((s.setNode n (some (Node.created o))).enqueue n).fillSlots, Reply.done report)
  | dropNode (n : NodeId) (report : List Byte) (h0 : n ≠ 0) (hk : s.keyedCount n = 0) :
      Acted s k .dropNode (((s.releaseNode n).setNode n none).fillSlots, Reply.done report)
  | clearCounts (n : NodeId) (r : Node) (report : List Byte) (hn : s.node n = some r) :
      Acted s k .readNode (s.setNode n (some { r with gaps := 0#16, unmapped := 0#16 }), Reply.done report)
  | setContact (a : ContactArgs) (report : List Byte) :
      Acted s k .setContact (s.changeContact a.input ((s.contacts[a.input]).configure a), Reply.done report)
  | setTiming (w t : Nat) (report : List Byte) (hw : 1 ≤ w ∧ w ≤ 255) (ht : 1 ≤ t ∧ t ≤ 7) :
      Acted s k .setTiming ({ s with resyncWait := w, resyncTries := t }, Reply.done report)
  | clearCounters (report : List Byte) :
      Acted s k .readPart ({ s with counters := Counters.zero }, Reply.done report)
  | resume (report : List Byte) :
      Acted s k .resume (({ s with mode := .run, retained := false }.refreshNode0.lendField).fillSlots, Reply.done report)
  | restart (report : List Byte) : Acted s k .restart (s, { status := .ok, report, restart := true })

section
variable (k : AgentId) (args : List Byte) (s : State)

theorem acted_joinAct : Acted s k .join (joinAct k args s) := by
  unfold joinAct
  split
  · exact .refused rfl
  · rename_i h
    split
    · exact .refused rfl
    · exact .join _ _ (Bool.not_eq_true _ ▸ h)

theorem acted_setMaskAct : Acted s k .setMask (setMaskAct k args s) := by
  unfold setMaskAct
  split
  · exact .refused rfl
  · exact .setMask _ _

theorem acted_readAgentAct : Acted s k .readAgent (readAgentAct k args s) := by
  unfold readAgentAct
  split
  · exact .refused rfl
  · exact .reported _

theorem acted_claimAct : Acted s k .claim (claimAct k args s) := by
  unfold claimAct
  split
  · exact .refused rfl
  · split
    · exact .refused rfl
    · rename_i hl
      split
      · exact .refused rfl
      · rename_i i a hb
        obtain ⟨hs, he, -⟩ := (s.best_eq_some_iff _ i a).1 hb
        obtain ⟨-, hp, -⟩ := (State.eligible_iff hs k _ _).1 he
        exact .claim i a _ hs hp (Nat.lt_of_not_le hl)

theorem acted_peekAct : Acted s k .peek (peekAct k args s) := by
  unfold peekAct
  split
  · exact .refused rfl
  · split
    · exact .refused rfl
    · exact .reported _

theorem acted_doneAct : Acted s k .done (doneAct k args s) := by
  unfold doneAct
  split
  · exact .refused rfl
  · split
    · rename_i hc
      exact .done _ _ (by rw [hc]; rfl)
    · split
      · exact .refused rfl
      · exact .refused rfl

theorem acted_putPromotionAct : Acted s k .putPromotion (putPromotionAct k args s) := by
  unfold putPromotionAct
  split
  · exact .refused rfl
  · split
    · exact .refused rfl
    · rename_i hs
      split
      · exact .refused rfl
      · rename_i hr
        obtain ⟨h0, h7⟩ := not_or.1 hr
        split
        · exact .refused rfl
        · rename_i hq
          exact .putPromotion _ _ _ _ hs h0 h7 (by simpa using hq)

theorem acted_clearPromotionAct : Acted s k .clearPromotion (clearPromotionAct k args s) := by
  unfold clearPromotionAct
  split
  · exact .refused rfl
  · exact .clearPromotion _ _

theorem acted_updateSource {i : SourceIx} {g : SourceConfig} {a : Source} (hs : s.source i = some a)
    (hnode : a.config.node = g.node) (hchan : a.config.channel = g.channel) (h0 : g.rank ≠ 0) :
    Acted s k .putSource (s.updateSource i g a) := by
  unfold State.updateSource
  split
  · exact .refused rfl
  · split
    · exact .refused rfl
    · rename_i h7
      split
      · exact .refused rfl
      · rename_i hbusy
        split
        · exact .refused rfl
        · rename_i hpromo
          simp only [not_and, not_not, Bool.not_eq_true, Option.isSome_eq_false_iff, Option.isNone_iff_eq_none]
            at h7 hbusy hpromo
          exact .update i g a _ hs hnode hchan h0 h7 hbusy hpromo

theorem acted_loadSource {i : SourceIx} {g : SourceConfig} (hs : s.source i = none) (hkey : s.keyElsewhere i g = false)
    (h0 : g.rank ≠ 0) : Acted s k .putSource (s.loadSource i g) := by
  unfold State.loadSource
  split
  · exact .refused rfl
  · rename_i r hn
    split
    · exact .refused rfl
    · rename_i h7
      simp only [not_and, not_not] at h7
      exact .load i g r _ hs hn hkey h0 h7

theorem acted_putSourceAct : Acted s k .putSource (putSourceAct k args s) := by
  unfold putSourceAct
  split
  · exact .refused rfl
  · rename_i i g hargs
    have h0 := sourceArgs_rank hargs
    split
    · rename_i a hs
      split
      · exact .refused rfl
      · rename_i hkey
        obtain ⟨hnode, hchan⟩ := not_or.1 hkey
        split
        · exact .refused rfl
        · exact acted_updateSource k s hs (not_not.1 hnode) (not_not.1 hchan) h0
    · rename_i hs
      split
      · exact .refused rfl
      · rename_i hkey
        exact acted_loadSource k s hs (Bool.not_eq_true _ ▸ hkey) h0

theorem acted_dropSourceAct : Acted s k .dropSource (dropSourceAct k args s) := by
  unfold dropSourceAct
  split
  · exact .refused rfl
  · split
    · exact .refused rfl
    · rename_i hs
      exact .dropSource _ _ _ hs

theorem acted_blockAct : Acted s k .block (blockAct k args s) := by
  unfold blockAct
  split
  · exact .refused rfl
  · split
    · exact .refused rfl
    · rename_i hs
      exact .block _ _ _ hs

theorem acted_unblockAct : Acted s k .unblock (unblockAct k args s) := by
  unfold unblockAct
  split
  · exact .refused rfl
  · split
    · exact .refused rfl
    · rename_i hs
      exact .unblock _ _ _ hs

theorem acted_readSourceAct : Acted s k .readSource (readSourceAct k args s) := by
  unfold readSourceAct
  split
  · exact .refused rfl
  · split
    · exact .refused rfl
    · exact .reported _

theorem acted_forceAct : Acted s k .force (forceAct k args s) := by
  unfold forceAct
  split
  · exact .refused rfl
  · split
    · exact .refused rfl
    · exact .force _ _

theorem acted_releaseAct : Acted s k .release (releaseAct k args s) := by
  unfold releaseAct
  split
  · exact .refused rfl
  · split
    · exact .refused rfl
    · exact .release _ _

theorem acted_putNodeAct : Acted s k .putNode (putNodeAct k args s) := by
  unfold putNodeAct
  split
  · exact .refused rfl
  · split
    · rename_i hn
      exact .lossSource _ _ _ _ hn
    · rename_i hn
      exact .create _ _ _ hn

theorem acted_dropNodeAct : Acted s k .dropNode (dropNodeAct k args s) := by
  unfold dropNodeAct
  split
  · exact .refused rfl
  · rename_i hargs
    split
    · exact .refused rfl
    · split
      · exact .refused rfl
      · rename_i hk
        exact .dropNode _ _ (fieldNodeArg_ne_zero hargs) (not_not.1 hk)

theorem acted_readNodeAct : Acted s k .readNode (readNodeAct k args s) := by
  unfold readNodeAct
  split
  · exact .refused rfl
  · split
    · exact .refused rfl
    · rename_i hn
      split
      · exact .clearCounts _ _ _ hn
      · exact .reported _

theorem acted_setContactAct : Acted s k .setContact (setContactAct k args s) := by
  unfold setContactAct
  split
  · exact .refused rfl
  · exact .setContact _ _

theorem acted_setTimingAct : Acted s k .setTiming (setTimingAct k args s) := by
  unfold setTimingAct
  split
  · exact .refused rfl
  · rename_i hargs
    obtain ⟨hw, ht⟩ := timingArgs_range hargs
    exact .setTiming _ _ _ hw ht

theorem acted_readPartAct : Acted s k .readPart (readPartAct k args s) := by
  unfold readPartAct
  split
  · exact .clearCounters _
  · exact .reported _

/-- The act of the block that owns a request comes to one of the results listed. -/
theorem ReqCode.acted (c : ReqCode) : Acted s k c (c.own k args s) := by
  cases c with
  | join => exact acted_joinAct k args s
  | leave => exact .leave _
  | setMask => exact acted_setMaskAct k args s
  | readAgent => exact acted_readAgentAct k args s
  | claim => exact acted_claimAct k args s
  | peek => exact acted_peekAct k args s
  | done => exact acted_doneAct k args s
  | putPromotion => exact acted_putPromotionAct k args s
  | clearPromotion => exact acted_clearPromotionAct k args s
  | putSource => exact acted_putSourceAct k args s
  | dropSource => exact acted_dropSourceAct k args s
  | block => exact acted_blockAct k args s
  | unblock => exact acted_unblockAct k args s
  | readSource => exact acted_readSourceAct k args s
  | force => exact acted_forceAct k args s
  | release => exact acted_releaseAct k args s
  | putNode => exact acted_putNodeAct k args s
  | dropNode => exact acted_dropNodeAct k args s
  | readNode => exact acted_readNodeAct k args s
  | setContact => exact acted_setContactAct k args s
  | setTiming => exact acted_setTimingAct k args s
  | readPart => exact acted_readPartAct k args s
  | resume => exact .resume _
  | restart => exact .restart _

end

end Sys2Proof.Machine
end

section
/-! PROOFS. What a step can do to the tables: every command is a run of the moves listed here, each with the facts that
its guards give. The laws of the tables are then kept because every move keeps them. -/

namespace Sys2Proof.Machine

open Sys2Proof

/-! ## The moves -/

/-- Sources, promotion table, agents, role, nodes, wait list and slots are the same. -/
structure State.SameTables (s t : State) : Prop where
  sources : t.sources = s.sources
  promotion : t.promotion = s.promotion
  agents : t.agents = s.agents
  role : t.role = s.role
  nodes : t.nodes = s.nodes
  waitList : t.waitList = s.waitList
  slots : t.slots = s.slots

/-- The events of Chapter 2 on a source: a transition, a level, FORCE and RELEASE. -/
inductive Source.Event : (Source → Source) → Prop where
  | transition (t : Transition) : Source.Event (Source.transition t)
  | level (v : Bool) : Source.Event (Source.takeLevel v)
  | forced (v : Bool) : Source.Event (Source.setForced v)

/-- `b` is `a` but for its notices, which have grown or shrunk as the rules of notices allow (R83 to R85). -/
structure Agent.NewNotices (a b : Agent) : Prop where
  rest : b = { a with notices := b.notices, noticesLost := b.noticesLost }
  detached : a.attached = false → a.notices = [] → b.notices = []
  within : a.notices.length ≤ 8 → (a.noticesLost = true → a.notices.length = 8) →
    b.notices.length ≤ 8 ∧ (b.noticesLost = true → b.notices.length = 8)

/-- The update keeps the state of a node and, of node 0, what R92 fixes. -/
structure Node.Steady (n : NodeId) (f : Node → Node) : Prop where
  state : ∀ r, (f r).state = r.state
  zero : n = 0 → ∀ r, (f r).expected = r.expected ∧ (f r).attempts = r.attempts ∧ (f r).wasLost = r.wasLost ∧
    (r.gaps = 0#16 → (f r).gaps = 0#16)

/-- One move of the part at its tables. -/
inductive Move : State → State → Prop where
  /-- Anything that leaves the tables alone. -/
  | aside {s t : State} (h : s.SameTables t) : Move s t
  | event (s : State) (i : SourceIx) {f : Source → Source} (h : Source.Event f) : Move s (s.changeSource i f)
  | grant (s : State) (k : AgentId) (i : SourceIx) (a : Source) (hs : s.source i = some a) (hp : a.status = .pending)
      (hk : (s.agent k).attached = true) (hl : (s.agent k).claims.length < 8) : Move s (s.grant k i a)
  | complete (s : State) (k : AgentId) (i : SourceIx) (h : ((s.agent k).claimOn i).isSome = true) :
      Move s ((s.modAgent k (Agent.dropClaim i)).changeSource i Source.complete)
  | expire (s : State) (k : AgentId) (c : Claim) (h : (s.agent k).claimOn c.source = some c) :
      Move s ((s.reclaim k c).modAgent k fun a => { a.addMark c.source with reclaims := satSucc a.reclaims })
  | endSession (s : State) (k : AgentId) : Move s (s.endSession k)
  | join (s : State) (k : AgentId) (a : JoinArgs) (h : (s.agent k).attached = false) :
      Move s (({ s with role := s.roleAfterJoin k a }.setAgent k (Agent.joined a)).reEvaluate k)
  | setMask (s : State) (k : AgentId) (m : Rank) : Move s ((s.modAgent k fun a => { a with mask := m }).reEvaluate k)
  | notices (s : State) (A : Vector Agent 4) (h : ∀ k : AgentId, (s.agent k).NewNotices A[k]) :
      Move s { s with agents := A }
  /-- An alert flag is cleared, and the rank told is the attention rank (R88). -/
  | served (s : State) (k : AgentId) :
      Move s (s.modAgent k fun a => { a with alert := false, lastSent := s.attention k })
  | promote (s : State) (p : PromoSlot) (i : SourceIx) (a : Source) (hs : s.source i = some a)
      (h0 : a.config.rank ≠ 0) (h7 : a.config.rank ≠ 7) (hq : ∀ q : PromoSlot, q ≠ p → s.promotion[q] ≠ some i) :
      Move s (s.setPromotion p (some i)).reEvaluateAll
  | clearPromotion (s : State) (p : PromoSlot) : Move s (s.setPromotion p none).reEvaluateAll
  | load (s : State) (i : SourceIx) (g : SourceConfig) (r : Node) (hs : s.source i = none)
      (hn : s.node g.node = some r) (hkey : s.keyElsewhere i g = false) (h0 : g.rank ≠ 0)
      (h7 : g.rank = 7 → g.cls = .edge) : Move s (s.setSource i (some (s.newSource g r))).reEvaluateAll
  | update (s : State) (i : SourceIx) (g : SourceConfig) (a : Source) (hs : s.source i = some a)
      (hnode : a.config.node = g.node) (hchan : a.config.channel = g.channel) (h0 : g.rank ≠ 0)
      (h7 : g.rank = 7 → g.cls = .edge) (hbusy : g.cls ≠ a.config.cls → a.status = .idle)
      (hpromo : g.rank = 7 → s.promoSlot i = none) : Move s (s.setSource i (some (a.update g))).reEvaluateAll
  | drop (s : State) (i : SourceIx) (a : Source) (hs : s.source i = some a) :
      Move s (((s.setSource i none).unpromote i).withdraw i a).reEvaluateAll
  | setBlocked (s : State) (i : SourceIx) (b : Bool) (a : Source) (hs : s.source i = some a) :
      Move s (s.setBlocked i b a)
  | record (s : State) (n : NodeId) {f : Node → Node} (h : Node.Steady n f) : Move s (s.modNode n f)
  | attempt (s : State) (j : SlotId) (e : Slot) (p : SlotPhase) (h : s.slots[j] = some e) :
      Move s { s.modNode e.node (fun r => { r with attempts := r.attempts + 1 }) with
        slots := s.slots.set j (some { e with phase := p }) }
  | phase (s : State) (j : SlotId) (e : Slot) (p : SlotPhase) (h : s.slots[j] = some e) :
      Move s { s with slots := s.slots.set j (some { e with phase := p }) }
  | create (s : State) (n : NodeId) (o : Option SourceIx) (h : s.node n = none) :
      Move s ((s.setNode n (some (Node.created o))).enqueue n)
  | dropNode (s : State) (n : NodeId) (h0 : n ≠ 0) (hk : s.keyedCount n = 0) :
      Move s ((s.releaseNode n).setNode n none)
  | slotTakes (s : State) (j : SlotId) : Move s (s.slotTakes j)
  /-- A gap: a SYNCED node goes to the wait list, its sources uncertain (R97). -/
  | desync (s : State) (n : NodeId) (r : Node) (h0 : n ≠ 0) (hn : s.node n = some r) (hr : r.state = .synced) :
      Move s ((s.enqueue n).markUncertain n true)
  | requeue (s : State) (n : NodeId) (r : Node) (h0 : n ≠ 0) (hn : s.node n = some r) (hr : r.state = .lost) :
      Move s (s.enqueue n)
  | resync (s : State) (n : NodeId) (r : Node) (q : Byte) (h0 : n ≠ 0) (hn : s.node n = some r) :
      Move s (((s.markUncertain n false).modNode n fun x =>
        { x with expected := q, state := .synced, wasLost := false }).releaseNode n)
  | lost (s : State) (j : SlotId) (e : Slot) (h : s.slots[j] = some e) :
      Move s { s.modNode e.node (fun x => { x with state := .lost, wasLost := true }) with
        slots := s.slots.set j none }
  | fieldNodesDown (s : State) : Move s s.fieldNodesDown
  | warmReset (s : State) : Move s s.warmReset
  | powerOnReset (s : State) : Move s s.powerOnReset

/-- A run of moves. -/
def Moves : State → State → Prop := Relation.ReflTransGen Move

theorem Moves.refl {s : State} : Moves s s := Relation.ReflTransGen.refl

theorem Moves.trans {s t u : State} (h : Moves s t) (h' : Moves t u) : Moves s u := Relation.ReflTransGen.trans h h'

/-- A law that every move keeps is kept by a run of moves. -/
theorem Moves.keeps {L : State → Prop} (h : ∀ s t, Move s t → L s → L t) {s t : State} (hst : Moves s t) (hs : L s) :
    L t := by
  induction hst with
  | refl => exact hs
  | tail _ hm ih => exact h _ _ hm ih

theorem Move.run {s t : State} (h : Move s t) : Moves s t := Relation.ReflTransGen.single h

theorem Moves.before {s t u : State} (h : Moves s t) (hm : Move t u) : Moves s u := h.trans hm.run

theorem Moves.toAside {s t u : State} (h : Moves s t) (hu : t.SameTables u) : Moves s u := h.before (.aside hu)

theorem Moves.ofAside {s t : State} (h : s.SameTables t) : Moves s t := Move.run (.aside h)

theorem Moves.foldl {α : Type} {f : State → α → State} (h : ∀ s a, Moves s (f s a)) (l : List α) (s : State) :
    Moves s (l.foldl f s) := by
  induction l generalizing s with
  | nil => exact .refl
  | cons a l ih => exact (h s a).trans (ih _)

/-! ## Shared operations as moves -/

theorem Agent.NewNotices.refl (a : Agent) : a.NewNotices a := ⟨rfl, fun _ h => h, fun h hl => ⟨h, hl⟩⟩

theorem Agent.newNotices_putNotice {a : Agent} (ha : a.attached = true) (n : Notice) : a.NewNotices (a.putNotice n) := by
  refine ⟨?_, fun h => absurd (ha.symm.trans h) (by simp), fun h hl => a.putNotice_within n h hl⟩
  unfold Agent.putNotice
  split <;> rfl

theorem Moves.notify (s : State) (k : AgentId) (n : Notice) : Moves s (s.notify k n) := by
  refine Move.run (.notices s _ fun j => ?_)
  change (s.agent j).NewNotices ((s.notify k n).agent j)
  rw [State.agent_notify]
  split
  · rename_i hkj
    subst hkj
    split
    · rename_i ha
      exact Agent.newNotices_putNotice ha n
    · exact .refl _
  · exact .refl _

theorem Moves.notifyFlagged (s : State) (n : Notice) : Moves s (s.notifyFlagged n) := by
  refine Move.run (.notices s _ fun j => ?_)
  change (s.agent j).NewNotices ((s.notifyFlagged n).agent j)
  rw [State.agent_notifyFlagged]
  split
  · rename_i ha
    exact Agent.newNotices_putNotice (Bool.and_eq_true_iff.1 ha).1 n
  · exact .refl _

theorem Moves.fillSlots (s : State) : Moves s s.fillSlots := by
  unfold State.fillSlots
  split
  · exact Moves.foldl (fun s j => Move.run (.slotTakes s j)) _ s
  · exact .refl

theorem Moves.nodeTransition (s : State) (n : NodeId) (c : Channel) (t : Transition) : Moves s (s.nodeTransition n c t) := by
  rcases s.nodeTransition_cases n c t with ⟨i, -, h⟩ | ⟨-, h⟩
  · rw [h]
    exact Move.run (.event s i (.transition t))
  · rw [h]
    exact Move.run (.record s n ⟨fun _ => rfl, fun _ _ => ⟨rfl, rfl, rfl, id⟩⟩)

theorem Moves.nodeLevels (s : State) (n : NodeId) (level : Channel → Bool) : Moves s (s.nodeLevels n level) := by
  refine Moves.foldl (fun s c => ?_) _ s
  unfold State.nodeLevel
  split
  · exact Move.run (.event s _ (.level _))
  · exact .refl

theorem Moves.contactReport (s : State) (n : Channel) (o : Option Transition) : Moves s (s.contactReport n o) := by
  unfold State.contactReport
  split
  · exact Moves.nodeTransition _ _ _ _
  · exact .refl
  · exact .refl

theorem Moves.changeContact (s : State) (n : Channel) (c : Contact) : Moves s (s.changeContact n c) := by
  have h : Moves s { s with contacts := s.contacts.set n c } := .ofAside ⟨rfl, rfl, rfl, rfl, rfl, rfl, rfl⟩
  exact h.trans (Moves.contactReport _ n _)

theorem Moves.endSessions (s : State) : Moves s s.endSessions := by
  refine Moves.foldl (fun s k => ?_) _ s
  unfold State.endIfAttached
  split
  · exact Move.run (.endSession s k)
  · exact .refl

/-- The sources after the operations that write several fields of them at once. -/
theorem State.source_setBlocked (s : State) (i : SourceIx) (b : Bool) (a : Source) (j : SourceIx) :
    (s.setBlocked i b a).source j =
      if i = j then some { a with config := { a.config with blocked := b } } else s.source j := by
  rw [← s.source_setSource i j]
  unfold State.setBlocked
  dsimp only
  split <;> rfl

theorem State.source_fieldNodesDown (s : State) (i : SourceIx) : s.fieldNodesDown.source i = (s.source i).map fun a =>
    if a.config.node ≠ 0 ∧ (s.node a.config.node).map Node.state = some .synced then { a with uncertain := true }
    else a := by simp [State.source, State.fieldNodesDown]

theorem State.source_warmReset (s : State) (i : SourceIx) : s.warmReset.source i = (s.source i).map Source.warm := by
  simp [State.source, State.warmReset]

theorem State.source_powerOnReset (s : State) (i : SourceIx) : s.powerOnReset.source i = none := by
  simp [State.source, State.powerOnReset, State.reset]

theorem State.modAgent_congr (s : State) (k : AgentId) {f g : Agent → Agent} (h : f (s.agent k) = g (s.agent k)) :
    s.modAgent k f = s.modAgent k g := by
  rw [State.modAgent, h, State.modAgent]

theorem Moves.serveAlerts (l : List AgentId) (s : State) : Moves s (s.serveAlerts l).1 := by
  induction l generalizing s with
  | nil => exact .refl
  | cons k l ih =>
    rw [State.serveAlerts_cons]
    split
    · split
      · rename_i hl
        have h : Move s (s.modAgent k fun a => { a with alert := false }) := by
          rw [s.modAgent_congr k (g := fun a => { a with alert := false, lastSent := s.attention k }) (by rw [hl])]
          exact .served s k
        exact (Move.run h).trans (ih _)
      · exact Move.run (.served s k)
    · exact ih s

/-! ## The acts of the requests as moves -/

/-- Writing a present record with some fields changed is the change of that record. -/
theorem State.setNode_some_eq_modNode {s : State} {n : NodeId} {r : Node} (h : s.node n = some r) (f : Node → Node) :
    s.setNode n (some (f r)) = s.modNode n f := by
  rw [State.modNode, h, Option.map_some]

/-- Fields of a present record other than its state are written. -/
theorem Moves.setNode {s : State} {n : NodeId} {r : Node} (hn : s.node n = some r) {f : Node → Node}
    (hf : Node.Steady n f) : Moves s (s.setNode n (some (f r))) := by
  rw [State.setNode_some_eq_modNode hn f]
  exact Move.run (.record s n hf)

theorem State.sameTables_lendField (s : State) : s.SameTables s.lendField := ⟨rfl, rfl, rfl, rfl, rfl, rfl, rfl⟩

theorem Moves.refreshNode0 (s : State) : Moves s s.refreshNode0 := Moves.nodeLevels s 0 _

/-- RESUME: the refresh of node 0, and the slots filled (R143). -/
theorem Moves.resume (s : State) :
    Moves s (({ s with mode := .run, retained := false } : State).refreshNode0.lendField).fillSlots := by
  have h : Moves s { s with mode := .run, retained := false } := .ofAside ⟨rfl, rfl, rfl, rfl, rfl, rfl, rfl⟩
  exact ((h.trans (Moves.refreshNode0 _)).toAside (State.sameTables_lendField _)).trans (Moves.fillSlots _)

/-- The act of an owning block is a run of moves; a CLAIM's needs the session that the common checks found. -/
theorem Acted.moves {s : State} {k : AgentId} {c : ReqCode} {p : State × Reply} (h : Acted s k c p)
    (hk : c.needsSession = true → (s.agent k).attached = true) : Moves s p.1 := by
  cases h with
  | refused _ => exact .refl
  | reported _ => exact .refl
  | join a _ ha => exact Move.run (.join s k a ha)
  | leave _ => exact Move.run (.endSession s k)
  | setMask m _ => exact Move.run (.setMask s k m)
  | claim i a _ hs hp hl => exact Move.run (.grant s k i a hs hp (hk rfl) hl)
  | done i _ hc => exact Move.run (.complete s k i hc)
  | putPromotion p i a _ hs h0 h7 hq => exact Move.run (.promote s p i a hs h0 h7 hq)
  | clearPromotion p _ => exact Move.run (.clearPromotion s p)
  | load i g r _ hs hn hkey h0 h7 => exact Move.run (.load s i g r hs hn hkey h0 h7)
  | update i g a _ hs hn hc h0 h7 hbusy hpromo => exact Move.run (.update s i g a hs hn hc h0 h7 hbusy hpromo)
  | dropSource i a _ hs => exact Move.run (.drop s i a hs)
  | block i a _ hs => exact Move.run (.setBlocked s i true a hs)
  | unblock i a _ hs => exact Move.run (.setBlocked s i false a hs)
  | force i _ => exact Move.run (.event s i (.forced true))
  | release i _ => exact Move.run (.event s i (.forced false))
  | lossSource n o r _ hn =>
    exact Moves.setNode hn (f := fun r => { r with lossSource := o }) ⟨fun _ => rfl, fun _ _ => ⟨rfl, rfl, rfl, id⟩⟩
  | create n o _ hn => exact (Move.run (.create s n o hn)).trans (Moves.fillSlots _)
  | dropNode n _ h0 hc => exact (Move.run (.dropNode s n h0 hc)).trans (Moves.fillSlots _)
  | clearCounts n r _ hn =>
    exact Moves.setNode hn (f := fun r => { r with gaps := 0#16, unmapped := 0#16 })
      ⟨fun _ => rfl, fun _ _ => ⟨rfl, rfl, rfl, fun _ => rfl⟩⟩
  | setContact a _ => exact Moves.changeContact s _ _
  | setTiming w t _ _ _ => exact .ofAside ⟨rfl, rfl, rfl, rfl, rfl, rfl, rfl⟩
  | clearCounters _ => exact .ofAside ⟨rfl, rfl, rfl, rfl, rfl, rfl, rfl⟩
  | resume _ =>
    dsimp only
    exact Moves.resume s
  | restart _ => exact .refl

/-! ## The commands as moves -/

theorem State.sameTables_answer (s : State) (f : Frame) (r : Reply) : s.SameTables (s.answer f r) :=
  ⟨rfl, rfl, rfl, rfl, rfl, rfl, rfl⟩

/-- A request row is the moves of its owning block's act, and its reply. -/
theorem Moves.request {c : ReqCode} {s t : State} (h : exec c.row s = .next t) : Moves s t := by
  rw [exec_row] at h
  rcases serve_next h with rfl | ⟨f, k, -, -, ⟨st, rfl⟩ | ⟨hk, rfl⟩⟩
  · exact .refl
  · exact .ofAside (s.sameTables_answer f _)
  · have hsession := ((s.commonCheck_none c k _).1 hk).2.1
    exact ((c.acted k _ s).moves hsession).toAside (State.sameTables_answer _ f _)

theorem Moves.takeEvt {s : State} {n : NodeId} {r : Node} (c : Channel) (t : Transition) (q : Byte) (h0 : n ≠ 0)
    (hn : s.node n = some r) : Moves s (s.takeEvt n r c t q) := by
  have hsteady : Node.Steady n fun x => { x with gaps := satSucc x.gaps } := ⟨fun _ => rfl, fun h => absurd h h0⟩
  have hexpected : Node.Steady n fun x => { x with expected := q + 1#8 } := ⟨fun _ => rfl, fun h => absurd h h0⟩
  have key : ∀ s1 : State, Moves s s1 → (∃ x, s1.node n = some x ∧ x.state = r.state) →
      let s2 := (s1.nodeTransition n c t).modNode n fun x => { x with expected := q + 1#8 }
      Moves s s2 ∧ ∃ x, s2.node n = some x ∧ x.state = r.state := by
    rintro s1 h1 ⟨x, hx, hst⟩
    refine ⟨(h1.trans (Moves.nodeTransition s1 n c t)).before (.record _ n hexpected), ?_⟩
    rw [State.node_modNode_same]
    rcases s1.nodeTransition_cases n c t with ⟨i, -, h⟩ | ⟨-, h⟩
    · rw [h, State.changeSource_node, hx]
      exact ⟨_, rfl, hst⟩
    · rw [h, State.node_modNode_same, hx]
      exact ⟨_, rfl, hst⟩
  unfold State.takeEvt
  obtain ⟨h2, x, hx, hst⟩ := key (if r.gapIn q then s.modNode n fun x => { x with gaps := satSucc x.gaps } else s)
    (by split; exacts [Move.run (.record s n hsteady), .refl]) (by split <;> simp [hn])
  dsimp only
  split
  · rename_i hr
    split
    · exact h2
    · exact ((h2.before (.desync _ n x h0 hx (hst.trans hr))).trans (Moves.notifyFlagged _ _)).trans (Moves.fillSlots _)
  · exact h2
  · exact h2
  · rename_i hr
    exact (h2.before (.requeue _ n x h0 hx (hst.trans hr))).trans (Moves.fillSlots _)

theorem Moves.takeState {s : State} {n : NodeId} {r : Node} (levels : BitVec 16) (q : Byte) (h0 : n ≠ 0)
    (hn : s.node n = some r) : Moves s (s.takeState n r levels q) := by
  have hl := Moves.nodeLevels s n fun c => levels.getLsbD c.val
  have hr := hl.before (.resync _ n r q h0 (by simpa [State.node] using hn))
  unfold State.takeState
  dsimp only
  split
  · exact (hr.trans (Moves.notifyFlagged _ _)).trans (Moves.fillSlots _)
  · exact hr.trans (Moves.fillSlots _)

theorem Moves.nodeLost {s : State} {j : SlotId} {e : Slot} (h : s.slots[j] = some e) (r : Node) :
    Moves s (s.nodeLost j e.node r) := by
  have h2 := (Move.run (.lost s j e h)).trans (Moves.notifyFlagged _ (.lost e.node))
  unfold State.nodeLost
  dsimp only
  split
  · exact (h2.before (.event _ _ (.transition .pulse))).trans (Moves.fillSlots _)
  · exact h2.trans (Moves.fillSlots _)

theorem Moves.waitExpiry (s : State) (j : SlotId) : Moves s (s.waitExpiry j) := by
  unfold State.waitExpiry
  split
  · exact .refl
  · rename_i e he
    split
    · split
      · exact Move.run (.phase s j e _ he)
      · exact Moves.nodeLost he _
    all_goals exact .refl

theorem Moves.queryTransmitted (s : State) (dest : Byte) : Moves s (s.queryTransmitted dest) := by
  unfold State.queryTransmitted
  split
  · exact .refl
  · split
    · exact .refl
    · rename_i e he
      exact Move.run (.attempt s _ e _ he)

theorem Moves.expire {s : State} {k : AgentId} {i : SourceIx} {c : Claim} (h : (s.agent k).claimOn i = some c) :
    Moves s (s.expire k c) := by
  obtain ⟨-, rfl⟩ := Agent.claimOn_some _ i c h
  exact (Move.run (.expire s k c h)).trans (Moves.notify _ _ _)

theorem State.stationOf_ne_zero {b : Byte} {n : NodeId} (h : stationOf b = some n) : n ≠ 0 := by
  unfold stationOf at h
  split at h
  · split at h
    · simp at h
    · rename_i h0
      simp only [Option.some.injEq] at h
      exact fun hn => h0 (by simpa [← h] using congrArg Fin.val hn)
  · simp at h

theorem State.fieldNode_ne_zero {s : State} {b : Byte} {n : NodeId} (h : s.fieldNode b = some n) : n ≠ 0 :=
  State.stationOf_ne_zero (Option.filter_eq_some_iff.1 h).1

section
variable {s t : State}

theorem Moves.evt (h : execEvt s = .next t) : Moves s t := by
  unfold execEvt at h
  have hd : Moves s s.dropStray := .ofAside ⟨rfl, rfl, rfl, rfl, rfl, rfl, rfl⟩
  have hf : Moves s s.finishField := .ofAside ⟨rfl, rfl, rfl, rfl, rfl, rfl, rfl⟩
  split at h
  · cases h; exact .refl
  · split at h
    · rename_i hn
      split at h
      · rename_i hr
        cases h
        exact hf.trans (Moves.takeEvt _ _ _ (State.fieldNode_ne_zero hn) hr)
      · cases h; exact hd
    all_goals cases h; exact hd

theorem Moves.state (h : execState s = .next t) : Moves s t := by
  unfold execState at h
  have hd : Moves s s.dropStray := .ofAside ⟨rfl, rfl, rfl, rfl, rfl, rfl, rfl⟩
  have hf : Moves s s.finishField := .ofAside ⟨rfl, rfl, rfl, rfl, rfl, rfl, rfl⟩
  split at h
  · cases h; exact .refl
  · split at h
    · rename_i hn
      split at h
      · rename_i hr
        cases h
        exact hf.trans (Moves.takeState _ _ (State.fieldNode_ne_zero hn) hr)
      · cases h; exact hd
    all_goals cases h; exact hd

theorem Moves.moveNotice (h : execMoveNotice s = .next t) : Moves s t := by
  unfold execMoveNotice at h
  split at h
  · split at h
    · cases h; exact .refl
    · rename_i k _
      split at h
      · cases h; exact .refl
      · rename_i n rest hl
        cases h
        refine Moves.trans (t := s.modAgent k fun a => { a with notices := rest, noticesLost := false })
          (Move.run (.notices s _ fun j => ?_)) (.ofAside ⟨rfl, rfl, rfl, rfl, rfl, rfl, rfl⟩)
        change (s.agent j).NewNotices ((s.modAgent k fun a => { a with notices := rest, noticesLost := false }).agent j)
        rw [State.agent_modAgent]
        split
        · rename_i hkj
          subst hkj
          refine ⟨rfl, fun _ hnil => absurd (hl.symm.trans hnil) (by simp), fun hle _ => ⟨?_, nofun⟩⟩
          rw [hl, List.length_cons] at hle
          exact Nat.le_of_succ_le hle
        · exact .refl _
  · cases h; exact .refl

theorem Moves.placeSyncq (h : execPlaceSyncq s = .next t) : Moves s t := by
  unfold execPlaceSyncq at h
  split at h
  · split at h
    · cases h; exact .refl
    · rename_i j _
      split at h
      · cases h; exact .refl
      · rename_i e he
        cases h
        exact (Move.run (.phase s j e _ he)).toAside ⟨rfl, rfl, rfl, rfl, rfl, rfl, rfl⟩
  · cases h; exact .refl

theorem Moves.trunkTransmitter (h : execTrunkTransmitter s = .next t) : Moves s t := by
  have hl := Moves.serveAlerts (List.finRange 4) s
  unfold execTrunkTransmitter at h
  split at h
  · split at h
    · rename_i u f hu
      rw [hu] at hl
      cases h
      exact hl.toAside ⟨rfl, rfl, rfl, rfl, rfl, rfl, rfl⟩
    · rename_i u hu
      rw [hu] at hl
      split at h
      · cases h; exact hl
      · cases h; exact hl.toAside ⟨rfl, rfl, rfl, rfl, rfl, rfl, rfl⟩
  · cases h; exact .refl

theorem Moves.trunkTransmitted (s : State) (v : BitVec 3) : Moves s (s.trunkTransmitted v) := by
  unfold State.trunkTransmitted
  split
  · exact .refl
  · exact .ofAside ⟨rfl, rfl, rfl, rfl, rfl, rfl, rfl⟩
  · exact .ofAside ⟨rfl, rfl, rfl, rfl, rfl, rfl, rfl⟩
  · rename_i e rest _ _
    have hsent : Moves s { s with trunk := s.trunk.headSent e rest } := .ofAside ⟨rfl, rfl, rfl, rfl, rfl, rfl, rfl⟩
    dsimp only
    split
    · exact (hsent.before (.warmReset _)).toAside ⟨rfl, rfl, rfl, rfl, rfl, rfl, rfl⟩
    · exact hsent

theorem Moves.fieldTransmitted (s : State) : Moves s s.fieldTransmitted := by
  unfold State.fieldTransmitted
  split
  · exact .refl
  · exact .ofAside ⟨rfl, rfl, rfl, rfl, rfl, rfl, rfl⟩
  · exact .ofAside ⟨rfl, rfl, rfl, rfl, rfl, rfl, rfl⟩
  · rename_i e rest _ _
    have hsent : Moves s { s with field := s.field.headSent e rest } := .ofAside ⟨rfl, rfl, rfl, rfl, rfl, rfl, rfl⟩
    dsimp only
    split
    · exact hsent.trans (Moves.queryTransmitted _ _)
    · exact hsent

theorem State.sameTables_setLine (s : State) (p : PortId) (l : Line) : s.SameTables (s.setLine p l) := by
  cases p <;> exact ⟨rfl, rfl, rfl, rfl, rfl, rfl, rfl⟩

theorem Moves.frameReceived {p : PortId} {bytes : List Byte} (h : execFrameReceived p bytes s = .next t) : Moves s t := by
  unfold execFrameReceived at h
  dsimp only at h
  split at h
  · split at h
    · cases h; exact .ofAside ⟨rfl, rfl, rfl, rfl, rfl, rfl, rfl⟩
    · split at h
      · cases h; exact .ofAside (s.sameTables_setLine p _)
      · cases h
        exact (Moves.ofAside (s.sameTables_setLine p _)).toAside ⟨rfl, rfl, rfl, rfl, rfl, rfl, rfl⟩
  · cases h; exact .refl

theorem Moves.readyReceived {p : PortId} {count : Nat} (h : execReadyReceived p count s = .next t) : Moves s t := by
  unfold execReadyReceived at h
  split at h
  · split at h
    · cases p with
      | trunk => cases h; exact .ofAside ⟨rfl, rfl, rfl, rfl, rfl, rfl, rfl⟩
      | field =>
        cases h
        exact ((Moves.ofAside (s.sameTables_setLine .field _)).trans (Moves.notifyFlagged _ _)).trans (Moves.fillSlots _)
    · cases h; exact .refl
  · cases h

/-- Link symbols of a port are no move of the tables. -/
theorem Moves.setLine_or_idle {p : PortId} {l : Line} {b : Prop} [Decidable b]
    (h : (if b then .next (s.setLine p l) else .next s : Outcome) = .next t) : Moves s t := by
  split at h
  · cases h; exact .ofAside (s.sameTables_setLine p l)
  · cases h; exact .refl

theorem State.sameTables_finishField_count (s : State) (f : Counters → Counters) :
    s.SameTables (s.finishField.count f) := ⟨rfl, rfl, rfl, rfl, rfl, rfl, rfl⟩

theorem Moves.trunkLinkDown (s : State) : Moves s s.trunkLinkDown := by
  have h : Moves s ({ s with trunk := s.trunk.enterQuiet Config.receiveBuffers }.count
    (Counters.addFlushed s.trunk.queue.length)) := .ofAside ⟨rfl, rfl, rfl, rfl, rfl, rfl, rfl⟩
  have he := h.trans (Moves.endSessions _)
  unfold State.trunkLinkDown
  dsimp only
  split
  · exact he.toAside (State.sameTables_finishField_count _ _)
  · exact he

theorem Moves.fieldLinkDown (s : State) : Moves s s.fieldLinkDown := by
  have h : Moves s { s with field := s.field.enterQuiet s.fieldGiven } := .ofAside ⟨rfl, rfl, rfl, rfl, rfl, rfl, rfl⟩
  have ht := (h.before (.fieldNodesDown _)).trans (Moves.notifyFlagged _ .fieldDown)
  unfold State.fieldLinkDown
  dsimp only
  split
  · exact ht.toAside ⟨rfl, rfl, rfl, rfl, rfl, rfl, rfl⟩
  · exact ht

theorem Moves.silenceTimeout {p : PortId} (h : execSilenceTimeout p s = .next t) : Moves s t := by
  unfold execSilenceTimeout at h
  split at h
  · cases p with
    | trunk => cases h; exact Moves.trunkLinkDown s
    | field => cases h; exact Moves.fieldLinkDown s
  · cases h; exact .refl

theorem Moves.powerOn {v : BitVec 3} {rstn : Bool} (h : execPowerOn v rstn s = .next t) : Moves s t := by
  have hp := Move.run (.powerOnReset s)
  unfold execPowerOn at h
  split at h <;> cases h <;> exact hp.toAside ⟨rfl, rfl, rfl, rfl, rfl, rfl, rfl⟩

theorem Moves.serviceTimerExpiry {agent index : Nat} (h : execServiceTimerExpiry agent index s = .next t) :
    Moves s t := by
  unfold execServiceTimerExpiry at h
  split at h
  · split at h
    · split at h
      · rename_i c hc
        split at h
        · cases h; exact Moves.expire hc
        · cases h; exact .refl
      · cases h; exact .refl
    · cases h
  · cases h

theorem Moves.sampleEvent {levels : BitVec 16} (h : execSampleEvent levels s = .next t) : Moves s t := by
  have hp : Moves s { s with pins := { s.pins with cin := levels } } := .ofAside ⟨rfl, rfl, rfl, rfl, rfl, rfl, rfl⟩
  unfold execSampleEvent at h
  split at h
  · cases h
    exact hp.trans (Moves.foldl (fun s n => Moves.changeContact s n _) _ _)
  · cases h; exact .refl

theorem Moves.fieldDataTaken (h : execFieldDataTaken s = .next t) : Moves s t := by
  unfold execFieldDataTaken at h
  split at h
  · cases h; exact .refl
  · split at h
    · cases h; exact .ofAside ⟨rfl, rfl, rfl, rfl, rfl, rfl, rfl⟩
    · split at h <;> cases h <;> exact .ofAside ⟨rfl, rfl, rfl, rfl, rfl, rfl, rfl⟩

theorem Moves.fieldDataPlaced (h : execFieldDataPlaced s = .next t) : Moves s t := by
  unfold execFieldDataPlaced at h
  split at h
  · split at h <;> cases h <;> exact .ofAside ⟨rfl, rfl, rfl, rfl, rfl, rfl, rfl⟩
  · cases h; exact .refl

theorem Moves.strayFrame (h : execStrayFrame s = .next t) : Moves s t := by
  unfold execStrayFrame at h
  split at h
  · split at h
    · cases h; exact .refl
    · split at h <;> cases h <;> exact .ofAside ⟨rfl, rfl, rfl, rfl, rfl, rfl, rfl⟩
  · cases h; exact .refl

theorem Moves.undefinedRequestCode (h : execUndefinedRequestCode s = .next t) : Moves s t := by
  unfold execUndefinedRequestCode at h
  split at h
  · split at h <;> cases h <;> exact .ofAside ⟨rfl, rfl, rfl, rfl, rfl, rfl, rfl⟩
  · cases h; exact .refl

theorem Moves.foreignFrame (h : execForeignFrame s = .next t) : Moves s t := by
  unfold execForeignFrame at h
  split at h
  · split at h <;> cases h <;> exact .ofAside ⟨rfl, rfl, rfl, rfl, rfl, rfl, rfl⟩
  · cases h; exact .refl

theorem Moves.trunkDataTaken (h : execTrunkDataTaken s = .next t) : Moves s t := by
  unfold execTrunkDataTaken at h
  split at h
  · split at h
    · split at h <;> cases h <;> exact .ofAside ⟨rfl, rfl, rfl, rfl, rfl, rfl, rfl⟩
    all_goals cases h; exact .refl
  · cases h; exact .refl

theorem Moves.trunkDataPlaced (h : execTrunkDataPlaced s = .next t) : Moves s t := by
  unfold execTrunkDataPlaced at h
  split at h
  · split at h <;> cases h <;> exact .ofAside ⟨rfl, rfl, rfl, rfl, rfl, rfl, rfl⟩
  · cases h; exact .refl

end

/-- Every command is a run of moves. -/
theorem moves_of_exec {c : Instr} {s t : State} (h : exec c s = .next t) : Moves s t := by
  cases Instr.kind c with
  | request c => exact Moves.request h
  | undefinedRequestCode => exact Moves.undefinedRequestCode h
  | foreignFrame => exact Moves.foreignFrame h
  | trunkDataTaken => exact Moves.trunkDataTaken h
  | trunkDataPlaced => exact Moves.trunkDataPlaced h
  | evt => exact Moves.evt h
  | state => exact Moves.state h
  | fieldDataTaken => exact Moves.fieldDataTaken h
  | fieldDataPlaced => exact Moves.fieldDataPlaced h
  | strayFrame => exact Moves.strayFrame h
  | moveNotice => exact Moves.moveNotice h
  | placeSyncq => exact Moves.placeSyncq h
  | resyncWaitExpiry slot =>
    simp only [exec, execResyncWaitExpiry] at h
    split at h
    · cases h; exact Moves.waitExpiry s _
    · cases h
  | serviceTimerExpiry agent index => exact Moves.serviceTimerExpiry h
  | sampleEvent levels => exact Moves.sampleEvent h
  | trunkTransmitter => exact Moves.trunkTransmitter h
  | fieldTransmitter =>
    simp only [exec, execFieldTransmitter] at h
    split at h <;> cases h <;> exact .ofAside ⟨rfl, rfl, rfl, rfl, rfl, rfl, rfl⟩
  | frameTransmitted p v =>
    cases p with
    | trunk => cases h; exact Moves.trunkTransmitted s v
    | field => cases h; exact Moves.fieldTransmitted s
  | frameReceived p bytes => exact Moves.frameReceived h
  | readyReceived p count => exact Moves.readyReceived h
  | creditReceived p => exact Moves.setLine_or_idle h
  | quietPhaseEnd p => exact Moves.setLine_or_idle h
  | readyFill p => exact Moves.setLine_or_idle h
  | silenceTimeout p => exact Moves.silenceTimeout h
  | warmReset => cases h; exact (Move.run (.warmReset s)).toAside ⟨rfl, rfl, rfl, rfl, rfl, rfl, rfl⟩
  | resetEnd v =>
    simp only [exec, execResetEnd] at h
    split at h <;> cases h <;> exact .ofAside ⟨rfl, rfl, rfl, rfl, rfl, rfl, rfl⟩
  | powerOn v rstn => exact Moves.powerOn h

/-- A step is a run of moves: taking the command off the queue leaves the tables alone. -/
theorem moves_of_step {s t : State} (h : step s = .next t) : Moves s t := by
  unfold step at h
  split at h
  · cases h; exact .refl
  · rename_i rest _
    have hq : Moves s { s with pending := rest } := .ofAside ⟨rfl, rfl, rfl, rfl, rfl, rfl, rfl⟩
    exact hq.trans (moves_of_exec h)

/-- A law is kept by every step when every move keeps it, beside a law `P` of its own. -/
theorem keptByStep_of_moves {P Q L : State → Prop} (hQ : ∀ s, P s → Q s)
    (hkeep : ∀ s t, Move s t → Q s → L s → Q t ∧ L t) : KeptByStep P L := fun s _ hP hL h =>
  (Moves.keeps (L := fun u => Q u ∧ L u) (fun u v hm hu => hkeep u v hm hu.1 hu.2) (moves_of_step h) ⟨hQ s hP, hL⟩).2

theorem keptByStep_of_move {L : State → Prop} (hkeep : ∀ s t, Move s t → L s → L t) : KeptByStep NoOtherLaw L :=
  fun _ _ _ hL h => Moves.keeps hkeep (moves_of_step h) hL

end Sys2Proof.Machine
end

section
/-! PROOFS. The pending state of a source (Chapter 2): what each event does to the fields of a source. -/

namespace Sys2Proof.Machine

open Sys2Proof

/-! ## The pending condition (R22, R23) -/

theorem Source.active_eq (a : Source) : a.active = (a.reasons.forced || match a.config.cls with
    | .edge => a.reasons.edgeOwed
    | .level => a.reasons.asserted || a.reasons.latched) := by
  unfold Source.active
  cases a.config.cls
  · exact Bool.or_comm _ _
  · exact Bool.or_comm _ _

theorem Source.isHeld_iff (a : Source) : a.isHeld = true ↔ ∃ k : AgentId, a.status = .held k := by
  cases h : a.status <;> simp [Source.isHeld, h]

theorem Source.settle_eq (a : Source) : a.settle =
    if a.isHeld = true then a else { a with status := if a.active = true then .pending else .idle } := by
  cases h : a.status <;> simp [Source.settle, Source.isHeld, Source.implied, h]

@[simp] theorem Source.settle_config (a : Source) : a.settle.config = a.config := by
  rw [Source.settle_eq]; split <;> rfl
@[simp] theorem Source.settle_reasons (a : Source) : a.settle.reasons = a.reasons := by
  rw [Source.settle_eq]; split <;> rfl
@[simp] theorem Source.settle_uncertain (a : Source) : a.settle.uncertain = a.uncertain := by
  rw [Source.settle_eq]; split <;> rfl
@[simp] theorem Source.settle_merge (a : Source) : a.settle.merge = a.merge := by
  rw [Source.settle_eq]; split <;> rfl

/-- Whether a source is active depends on its class and reasons. -/
theorem Source.active_congr {a b : Source} (hc : a.config.cls = b.config.cls) (hr : a.reasons = b.reasons) :
    a.active = b.active := by simp only [Source.active, hc, hr]

@[simp] theorem Source.settle_active (a : Source) : a.settle.active = a.active :=
  Source.active_congr (by rw [Source.settle_config]) a.settle_reasons

theorem Source.settle_held {a : Source} {k : AgentId} (h : a.status = .held k) : a.settle = a := by
  simp [Source.settle, h]

theorem Source.settle_status_of_not_held {a : Source} (h : a.isHeld = false) :
    a.settle.status = if a.active = true then .pending else .idle := by
  rw [Source.settle_eq, if_neg (by simp [h])]

/-- The state of a source that is not HELD is the one its reasons imply (R22). -/
def Source.Settled (a : Source) : Prop :=
  (a.status = .pending → a.active = true) ∧ (a.status = .idle → a.active = false)

theorem Source.settled_settle (a : Source) : a.settle.Settled := by
  unfold Source.Settled
  rw [Source.settle_active]
  cases hh : a.isHeld with
  | true =>
    obtain ⟨k, hk⟩ := a.isHeld_iff.1 hh
    rw [Source.settle_held hk, hk]
    exact ⟨nofun, nofun⟩
  | false =>
    rw [Source.settle_status_of_not_held hh]
    cases a.active <;> simp

theorem Source.settled_complete (a : Source) : a.complete.Settled := by
  have ha : a.complete.active = a.active := Source.active_congr rfl rfl
  unfold Source.Settled
  rw [ha, Source.complete, Source.implied]
  cases a.active <;> simp

/-! ## Triggers and latches (R25, R26) -/

theorem Source.oneTrigger_eq (a : Source) : a.oneTrigger = { a with
    reasons := { a.reasons with edgeOwed := true }
    merge := satAdd a.merge a.reasons.edgeOwed.toNat } := by
  unfold Source.oneTrigger
  split
  · rename_i h
    obtain ⟨config, status, ⟨e, l, as, fo⟩, u, m⟩ := a
    obtain rfl : e = true := h
    rfl
  · rename_i h
    simp [Bool.not_eq_true _ ▸ h]

theorem Source.oneLatch_eq (a : Source) : a.oneLatch = { a with
    reasons := { a.reasons with latched := true }
    merge := satAdd a.merge a.reasons.latched.toNat } := by
  unfold Source.oneLatch
  split
  · rename_i h
    obtain ⟨config, status, ⟨e, l, as, fo⟩, u, m⟩ := a
    obtain rfl : l = true := h
    rfl
  · rename_i h
    simp [Bool.not_eq_true _ ▸ h]

/-- The triggers a transition is to an EDGE source (Table 2-2). -/
def Trigger.count : Transition → Trigger → Nat
  | .raise, .rising => 1
  | .raise, .falling => 0
  | .raise, .both => 1
  | .fall, .rising => 0
  | .fall, .falling => 1
  | .fall, .both => 1
  | .pulse, .rising => 1
  | .pulse, .falling => 1
  | .pulse, .both => 2

/-- The level after a transition (R32 to R36). -/
def Transition.level (t : Transition) (before : Bool) : Bool :=
  match t with
  | .raise => true
  | .fall => false
  | .pulse => before

theorem Source.react_edge {a : Source} (h : a.config.cls = .edge) (t : Transition) : a.react t = { a with
    reasons := { a.reasons with
      edgeOwed := a.reasons.edgeOwed || decide (0 < Trigger.count t a.config.trigger)
      asserted := t.level a.reasons.asserted }
    merge := satAdd a.merge (if a.reasons.edgeOwed = true then Trigger.count t a.config.trigger
      else Trigger.count t a.config.trigger - 1) } := by
  unfold Source.react
  rw [h]
  cases t <;> cases a.config.trigger <;> cases he : a.reasons.edgeOwed <;>
    simp [Source.oneTrigger_eq, Source.assert, Trigger.count, Transition.level, he, satAdd_satAdd]

theorem Source.react_level {a : Source} (h : a.config.cls = .level) (t : Transition) : a.react t = { a with
    reasons := { a.reasons with
      latched := a.reasons.latched || decide (t = .pulse)
      asserted := t.level a.reasons.asserted }
    merge := satAdd a.merge (if a.reasons.latched = true ∧ t = .pulse then 1 else 0) } := by
  unfold Source.react
  rw [h]
  cases t <;> cases hl : a.reasons.latched <;>
    simp [Source.oneLatch_eq, Source.assert, Transition.level, hl]

@[simp] theorem Source.react_config (a : Source) (t : Transition) : (a.react t).config = a.config := by
  cases h : a.config.cls
  · rw [Source.react_edge h]
  · rw [Source.react_level h]
@[simp] theorem Source.react_status (a : Source) (t : Transition) : (a.react t).status = a.status := by
  cases h : a.config.cls
  · rw [Source.react_edge h]
  · rw [Source.react_level h]
@[simp] theorem Source.react_uncertain (a : Source) (t : Transition) : (a.react t).uncertain = a.uncertain := by
  cases h : a.config.cls
  · rw [Source.react_edge h]
  · rw [Source.react_level h]
@[simp] theorem Source.react_forced (a : Source) (t : Transition) :
    (a.react t).reasons.forced = a.reasons.forced := by
  cases h : a.config.cls
  · rw [Source.react_edge h]
  · rw [Source.react_level h]
theorem Source.react_asserted (a : Source) (t : Transition) :
    (a.react t).reasons.asserted = t.level a.reasons.asserted := by
  cases h : a.config.cls
  · rw [Source.react_edge h]
  · rw [Source.react_level h]

theorem Source.isHeld_congr {a b : Source} (h : a.status = b.status) : a.isHeld = b.isHeld := by
  simp only [Source.isHeld, h]

/-- Settles O11: the reasons by the row of Table 2-2 for the class, and the state by the pending condition. -/
theorem transitionTable : Obligations.TransitionTable := by
  intro a t triggers level b
  have htriggers : triggers = Trigger.count t a.config.trigger := by
    unfold triggers
    cases t <;> cases a.config.trigger <;> rfl
  have hlevel : level = t.level a.reasons.asserted := by
    unfold level
    cases t <;> rfl
  have hb : b = (a.react t).settle := rfl
  refine ⟨by simp [hb], by simp [hb], by simp [hb], ?asserted, fun hc => ?edge, fun hc => ?levelled, fun k hk => ?held,
    fun hh => ?settled, ?active⟩
  case asserted => rw [hb, Source.settle_reasons, Source.react_asserted, hlevel]
  case edge =>
    rw [hb, Source.settle_reasons, Source.settle_merge, Source.react_edge hc, htriggers]
    exact ⟨rfl, rfl, satAdd_toNat _ _⟩
  case levelled =>
    rw [hb, Source.settle_reasons, Source.settle_merge, Source.react_level hc]
    exact ⟨rfl, rfl, satAdd_toNat _ _⟩
  case held => rw [hb, Source.settle_held (k := k) (by simpa using hk), Source.react_status, hk]
  case settled =>
    have hh' : (a.react t).isHeld = false := (Source.isHeld_congr (by simp)).trans hh
    rw [hb, Source.settle_status_of_not_held hh', Source.settle_active]
  case active =>
    have hcfg : b.config = a.config := by simp [hb]
    rw [Source.active_eq, hcfg] <;> rfl

/-! ## The other events (R37 to R42) -/

theorem Source.takeLevel_level {a : Source} (h : a.config.cls = .level) (v : Bool) :
    a.takeLevel v = (a.assert v).settle := by simp [Source.takeLevel, h]

theorem Source.takeLevel_edge {a : Source} (h : a.config.cls = .edge) (v : Bool) :
    a.takeLevel v = if a.reasons.asserted = v then a else a.transition (if v = true then .raise else .fall) := by
  simp [Source.takeLevel, h]

theorem Source.reclaim_eq (a : Source) (c : Consumed) : a.reclaim c = Source.complete { a with
    reasons := { a.reasons with
      edgeOwed := a.reasons.edgeOwed || c.edgeOwed
      latched := a.reasons.latched || c.latched }
    merge := satAdd a.merge ((a.reasons.edgeOwed && c.edgeOwed).toNat + (a.reasons.latched && c.latched).toNat) } := by
  obtain ⟨e, l⟩ := c
  unfold Source.reclaim
  cases e <;> cases l <;> simp [Source.oneTrigger_eq, Source.oneLatch_eq, satAdd_satAdd]

/-- Settles O12: each event's equation, with the state by the pending condition. -/
theorem sourceEvents : Obligations.SourceEvents := by
  refine ⟨fun a => ⟨a.isHeld_iff, a.active_eq⟩, fun a level h => ?level, fun a level h => ?edge, fun a v => ?forced,
    fun _ _ => rfl, fun _ => rfl, fun a c => ?reclaim⟩
  case level => rw [Source.takeLevel_level h, Source.settle_eq]; rfl
  case edge => rw [Source.takeLevel_edge h]
  case forced => rw [Source.setForced, Source.settle_eq]; rfl
  case reclaim => rw [Source.reclaim_eq]; rfl

/-! ## What an event keeps -/

section
variable {f : Source → Source}

/-- An event is a change of reasons and merge count, then the pending condition; or nothing (R23). -/
theorem Source.Event.cases (h : Source.Event f) (a : Source) :
    f a = a ∨ ∃ b : Source, f a = b.settle ∧ b.config = a.config ∧ b.status = a.status ∧ b.uncertain = a.uncertain := by
  cases h with
  | transition t => exact Or.inr ⟨a.react t, rfl, by simp, by simp, by simp⟩
  | level v =>
    cases hc : a.config.cls with
    | level => exact Or.inr ⟨a.assert v, Source.takeLevel_level hc v, rfl, rfl, rfl⟩
    | edge =>
      rw [Source.takeLevel_edge hc]
      split
      · exact Or.inl rfl
      · exact Or.inr ⟨a.react _, rfl, by simp, by simp, by simp⟩
  | forced v => exact Or.inr ⟨_, rfl, rfl, rfl, rfl⟩

theorem Source.Event.config (h : Source.Event f) (a : Source) : (f a).config = a.config := by
  rcases h.cases a with hf | ⟨b, hf, hc, -, -⟩ <;> rw [hf]
  rw [Source.settle_config, hc]

theorem Source.Event.uncertain (h : Source.Event f) (a : Source) : (f a).uncertain = a.uncertain := by
  rcases h.cases a with hf | ⟨b, hf, -, -, hu⟩ <;> rw [hf]
  rw [Source.settle_uncertain, hu]

/-- An event neither makes nor ends a holding (R23, R24). -/
theorem Source.Event.held_iff (h : Source.Event f) (a : Source) (k : AgentId) :
    (f a).status = .held k ↔ a.status = .held k := by
  rcases h.cases a with hf | ⟨b, hf, -, hs, -⟩ <;> rw [hf]
  rw [← hs, Source.settle_eq]
  cases hh : b.isHeld with
  | true => simp
  | false =>
    have hne : b.status ≠ .held k := fun hk => by rw [b.isHeld_iff.2 ⟨k, hk⟩] at hh; cases hh
    cases ha : b.active <;> simp [hne]

theorem Source.Event.settled (h : Source.Event f) {a : Source} (ha : a.Settled) : (f a).Settled := by
  rcases h.cases a with hf | ⟨b, hf, -, -, -⟩ <;> rw [hf]
  · exact ha
  · exact b.settled_settle

end

/-- Latched is set on LEVEL sources only and edge-owed on EDGE sources only (R22). -/
def Source.ClassReasons (a : Source) : Prop :=
  (a.reasons.latched = true → a.config.cls = .level) ∧ (a.reasons.edgeOwed = true → a.config.cls = .edge)

/-- What a claim consumed is a reason of its source's class (R40). -/
def Consumed.FitsClass (c : Consumed) (cls : SourceClass) : Prop :=
  (c.latched = true → cls = .level) ∧ (c.edgeOwed = true → cls = .edge)

theorem Source.classReasons_settle {a : Source} (h : a.ClassReasons) : a.settle.ClassReasons := by
  unfold Source.ClassReasons
  rwa [Source.settle_reasons, Source.settle_config]

theorem Source.classReasons_react {a : Source} (h : a.ClassReasons) (t : Transition) : (a.react t).ClassReasons := by
  cases hc : a.config.cls with
  | edge =>
    rw [Source.react_edge hc]
    exact ⟨h.1, fun _ => hc⟩
  | level =>
    rw [Source.react_level hc]
    exact ⟨fun _ => hc, h.2⟩

theorem Source.Event.classReasons {f : Source → Source} (hf : Source.Event f) {a : Source} (h : a.ClassReasons) :
    (f a).ClassReasons := by
  cases hf with
  | transition t => exact Source.classReasons_settle (Source.classReasons_react h t)
  | level v =>
    cases hc : a.config.cls with
    | level => rw [Source.takeLevel_level hc]; exact Source.classReasons_settle (a := a.assert v) h
    | edge =>
      rw [Source.takeLevel_edge hc]
      split
      · exact h
      · exact Source.classReasons_settle (Source.classReasons_react h _)
  | forced v => exact Source.classReasons_settle (a := { a with reasons := { a.reasons with forced := v } }) h

theorem Source.classReasons_reclaim {a : Source} (h : a.ClassReasons) {c : Consumed} (hc : c.FitsClass a.config.cls) :
    (a.reclaim c).ClassReasons := by
  obtain ⟨hl, he⟩ := h
  obtain ⟨cl, ce⟩ := hc
  rw [Source.reclaim_eq]
  refine ⟨fun hx => ?_, fun hx => ?_⟩
  · rcases Bool.or_eq_true_iff.1 hx with hx | hx
    · exact hl hx
    · exact cl hx
  · rcases Bool.or_eq_true_iff.1 hx with hx | hx
    · exact he hx
    · exact ce hx

@[simp] theorem Source.reclaim_config (a : Source) (c : Consumed) : (a.reclaim c).config = a.config := by
  rw [Source.reclaim_eq]; rfl
@[simp] theorem Source.reclaim_uncertain (a : Source) (c : Consumed) : (a.reclaim c).uncertain = a.uncertain := by
  rw [Source.reclaim_eq]; rfl

theorem Source.settled_reclaim (a : Source) (c : Consumed) : (a.reclaim c).Settled := by
  rw [Source.reclaim_eq]; exact Source.settled_complete _

end Sys2Proof.Machine
end

section
/-! PROOFS. The laws of the source table and the promotion table (R2, R4, R22, R52), kept by every move. -/

namespace Sys2Proof.Machine

open Sys2Proof

/-! ## What a move does to a loaded source -/

/-- What a move from state `s` does to the source at index `i`, when it neither loads, updates nor drops it. -/
inductive Source.Change (s : State) (i : SourceIx) : Source → Source → Prop where
  | marked (a : Source) (u b : Bool) : Change s i a { a with uncertain := u, config := { a.config with blocked := b } }
  | event (a : Source) {f : Source → Source} (h : Source.Event f) : Change s i a (f a)
  | grant (a : Source) (k : AgentId) (h : a.status = .pending) : Change s i a (a.grant k)
  | complete (a : Source) (k : AgentId) (h : ((s.agent k).claimOn i).isSome = true) : Change s i a a.complete
  | reclaim (a : Source) (k : AgentId) (c : Claim) (h : c ∈ (s.agent k).claims) (hi : c.source = i) :
      Change s i a (a.reclaim c.consumed)
  | warm (a : Source) : Change s i a a.warm
  | trans {a b c : Source} (h : Change s i a b) (h' : Change s i b c) : Change s i a c

section
variable {s : State} {i : SourceIx} {a b : Source}

theorem Source.Change.refl (s : State) (i : SourceIx) (a : Source) : Source.Change s i a a :=
  .marked a a.uncertain a.config.blocked

/-- Nothing but the blocked flag of the configuration changes. -/
theorem Source.Change.config (h : Source.Change s i a b) : ∃ v, b.config = { a.config with blocked := v } := by
  induction h with
  | marked a u v => exact ⟨v, rfl⟩
  | event a hf => exact ⟨a.config.blocked, hf.config a⟩
  | grant a k _ => exact ⟨a.config.blocked, rfl⟩
  | complete a k _ => exact ⟨a.config.blocked, rfl⟩
  | reclaim a k c _ _ => exact ⟨a.config.blocked, a.reclaim_config _⟩
  | warm a => exact ⟨a.config.blocked, rfl⟩
  | trans _ _ ih ih' =>
    obtain ⟨v, hv⟩ := ih
    obtain ⟨w, hw⟩ := ih'
    exact ⟨w, by rw [hw, hv]⟩

theorem Source.Change.settled (h : Source.Change s i a b) (ha : a.Settled) : b.Settled := by
  induction h with
  | marked a u v => exact ha
  | event a hf => exact hf.settled ha
  | grant a k _ => exact ⟨nofun, nofun⟩
  | complete a k _ => exact a.settled_complete
  | reclaim a k c _ _ => exact a.settled_reclaim _
  | warm a => exact ⟨nofun, fun _ => by rw [Source.active_eq]; cases hc : a.config.cls <;> simp [Source.warm, hc]⟩
  | trans _ _ ih ih' => exact ih' (ih ha)

theorem Source.Change.classReasons (h : Source.Change s i a b)
    (hfit : ∀ k, ∀ c ∈ (s.agent k).claims, c.source = i → c.consumed.FitsClass a.config.cls) (ha : a.ClassReasons) :
    b.ClassReasons := by
  induction h with
  | marked a u v => exact ha
  | event a hf => exact hf.classReasons ha
  | grant a k _ => exact ⟨nofun, nofun⟩
  | complete a k _ => exact ha
  | reclaim a k c hc hi => exact Source.classReasons_reclaim ha (hfit k c hc hi)
  | warm a => exact ⟨nofun, nofun⟩
  | trans h _ ih ih' =>
    obtain ⟨v, hv⟩ := h.config
    exact ih' (fun k c hc hi => by rw [hv]; exact hfit k c hc hi) (ih hfit ha)

end

/-- Every source is loaded in both states or in neither, and has changed as a move from `s` may change it. -/
abbrev State.Changed (s t : State) : Prop := ∀ i : SourceIx, Option.Rel (Source.Change s i) (s.source i) (t.source i)

theorem Option.Rel.map_right {α β : Type} {r : α → β → Prop} {o : Option α} {f : α → β} (h : ∀ a, o = some a → r a (f a)) :
    Option.Rel r o (o.map f) := by
  cases o with
  | none => exact .none
  | some a => exact .some (h a rfl)

theorem Option.Rel.then_map {α β : Type} {r : α → β → Prop} {o : Option α} {p : Option β} {f : β → β}
    (h : Option.Rel r o p) (hf : ∀ a b, r a b → r a (f b)) : Option.Rel r o (p.map f) := by
  cases h with
  | none => exact .none
  | some hr => exact .some (hf _ _ hr)

theorem Option.Rel.of_some_right {α β : Type} {r : α → β → Prop} {o : Option α} {p : Option β} (h : Option.Rel r o p)
    {b : β} (hb : p = some b) : ∃ a, o = some a ∧ r a b := by
  cases h with
  | none => cases hb
  | some hr => cases hb; exact ⟨_, rfl, hr⟩

theorem Option.Rel.of_some_left {α β : Type} {r : α → β → Prop} {o : Option α} {p : Option β} (h : Option.Rel r o p)
    {a : α} (ha : o = some a) : ∃ b, p = some b ∧ r a b := by
  cases h with
  | none => cases ha
  | some hr => cases ha; exact ⟨_, rfl, hr⟩

section
variable {s t : State}

theorem State.changed_of_sources (h : t.sources = s.sources) : s.Changed t := fun i => by
  have hi : t.source i = s.source i := by simp only [State.source, h]
  rw [hi]
  cases s.source i with
  | none => exact .none
  | some a => exact .some (.refl s i a)

/-- A change of the source at one index. -/
theorem State.changed_at {i : SourceIx} {f : Source → Source}
    (ht : ∀ j, t.source j = if i = j then (s.source j).map f else s.source j)
    (hf : ∀ a, s.source i = some a → Source.Change s i a (f a)) : s.Changed t := fun j => by
  rw [ht]
  split
  · rename_i hij
    subst hij
    exact Option.Rel.map_right hf
  · cases s.source j with
    | none => exact .none
    | some a => exact .some (.refl s j a)

/-- A change of every source. -/
theorem State.changed_all {f : SourceIx → Source → Source} (ht : ∀ j, t.source j = (s.source j).map (f j))
    (hf : ∀ j a, Source.Change s j a (f j a)) : s.Changed t := fun j => by
  rw [ht]
  exact Option.Rel.map_right fun a _ => hf j a

end

theorem State.changed_changeSource (s : State) (i : SourceIx) {f : Source → Source}
    (hf : ∀ a, s.source i = some a → Source.Change s i a (f a)) : s.Changed (s.changeSource i f) :=
  State.changed_at (i := i) (f := f) (fun j => by rw [State.source_changeSource]; split <;> simp_all) hf

/-- The end of a session takes its sources from the reclaims. -/
theorem State.source_endSession (s : State) (k : AgentId) (i : SourceIx) : (s.endSession k).source i =
    ((s.agent k).claims.foldl (fun t c => t.reclaim k c) s).source i := by
  unfold State.endSession
  dsimp only
  split <;> rfl

theorem State.changed_endSession (s : State) (k : AgentId) : s.Changed (s.endSession k) := fun i => by
  rw [State.source_endSession]
  revert i
  refine List.foldlRecOn (motive := s.Changed) _ _ (State.changed_of_sources rfl) fun t ht c hc i => ?_
  rw [State.source_reclaim]
  split
  · rename_i hi
    exact Option.Rel.then_map (ht i) fun _ _ h => h.trans (.reclaim _ k c hc hi)
  · exact ht i

/-- What a move does to the sources and the promotion table: every source stays loaded and changes as it may, with the
promotion table as it was; or a promotion entry is written, or one source is loaded, updated or dropped; or all is
cleared. -/
inductive State.SourcesChange (s : State) : State → Prop where
  | changed {t : State} (h : s.Changed t) (hp : t.promotion = s.promotion) : s.SourcesChange t
  | promoted (p : PromoSlot) (o : Option SourceIx) (h : ∀ i, o = some i →
      (∃ a, s.source i = some a ∧ a.config.rank ≠ 0 ∧ a.config.rank ≠ 7) ∧
        ∀ q : PromoSlot, q ≠ p → s.promotion[q] ≠ some i) : s.SourcesChange (s.setPromotion p o).reEvaluateAll
  | loaded (i : SourceIx) (g : SourceConfig) (r : Node) (hs : s.source i = none) (hn : s.node g.node = some r)
      (hkey : s.keyElsewhere i g = false) (h0 : g.rank ≠ 0) (h7 : g.rank = 7 → g.cls = .edge) :
      s.SourcesChange (s.setSource i (some (s.newSource g r))).reEvaluateAll
  | updated (i : SourceIx) (g : SourceConfig) (a : Source) (hs : s.source i = some a) (hn : a.config.node = g.node)
      (hc : a.config.channel = g.channel) (h0 : g.rank ≠ 0) (h7 : g.rank = 7 → g.cls = .edge)
      (hb : g.cls ≠ a.config.cls → a.status = .idle) (hp : g.rank = 7 → s.promoSlot i = none) :
      s.SourcesChange (s.setSource i (some (a.update g))).reEvaluateAll
  | dropped (i : SourceIx) (a : Source) (hs : s.source i = some a) :
      s.SourcesChange (((s.setSource i none).unpromote i).withdraw i a).reEvaluateAll
  | cleared : s.SourcesChange s.powerOnReset

theorem Move.sources {s t : State} (h : Move s t) : s.SourcesChange t := by
  have same (h : t.sources = s.sources) (hp : t.promotion = s.promotion) : s.SourcesChange t :=
    .changed (State.changed_of_sources h) hp
  cases h with
  | aside h => exact same h.sources h.promotion
  | event i hf => exact .changed (s.changed_changeSource i fun a _ => .event a hf) (by simp)
  | grant k i a hs hp =>
    exact .changed (State.changed_at (s.source_grant k i a)
      fun b hb => .grant b k (by rw [← Option.some.inj (hs.symm.trans hb), hp])) (by simp)
  | complete k i hc =>
    exact .changed (State.changed_at (i := i) (f := Source.complete)
      (fun j => by rw [State.source_changeSource]; split <;> simp_all [State.source])
      fun b _ => .complete b k hc) (by simp)
  | expire k c hc =>
    exact .changed (State.changed_at (i := c.source) (s.source_reclaim k c)
      fun b _ => .reclaim b k c (Agent.claimOn_some _ _ c hc).1 rfl) (by simp)
  | endSession k => exact .changed (s.changed_endSession k) (by simp)
  | join k a _ => exact same rfl rfl
  | setMask k m => exact same rfl rfl
  | notices A _ => exact same rfl rfl
  | served k => exact same rfl rfl
  | promote p i a hs h0 h7 hq =>
    refine .promoted p (some i) fun j hj => ?_
    cases hj
    exact ⟨⟨a, hs, h0, h7⟩, hq⟩
  | clearPromotion p => exact .promoted p none nofun
  | load i g r hs hn hk h0 h7 => exact .loaded i g r hs hn hk h0 h7
  | update i g a hs hn hc h0 h7 hb hp => exact .updated i g a hs hn hc h0 h7 hb hp
  | drop i a hs => exact .dropped i a hs
  | setBlocked i b a hs =>
    refine .changed (State.changed_at (i := i) (f := fun a => { a with config := { a.config with blocked := b } })
      (fun j => ?_) fun c _ => .marked c _ b) (by simp)
    rw [State.source_setBlocked]
    split
    · rename_i hij
      rw [← hij, hs]
      rfl
    · rfl
  | record n _ => exact same rfl rfl
  | attempt j e p _ => exact same rfl rfl
  | phase j e p _ => exact same rfl rfl
  | create n o _ => exact same rfl rfl
  | dropNode n _ _ => exact same rfl rfl
  | slotTakes j => exact same (by simp) (by simp)
  | desync n r _ _ _ =>
    exact .changed (State.changed_all (fun j => State.source_markUncertain _ n true j) fun j a => by
      split
      exacts [.marked a true a.config.blocked, .refl s j a]) rfl
  | requeue n r _ _ _ => exact same rfl rfl
  | resync n r q _ _ =>
    exact .changed (State.changed_all (fun j => State.source_markUncertain s n false j) fun j a => by
      split
      exacts [.marked a false a.config.blocked, .refl s j a]) rfl
  | lost j e _ => exact same rfl rfl
  | fieldNodesDown =>
    refine .changed (State.changed_all s.source_fieldNodesDown fun j a => ?_) rfl
    split
    exacts [.marked a true a.config.blocked, .refl s j a]
  | warmReset => exact .changed (State.changed_all s.source_warmReset fun _ a => .warm a) rfl
  | powerOnReset => exact .cleared

theorem Move.origin {s t : State} (h : Move s t) {i : SourceIx} {a : Source} (ha : t.source i = some a) :
    (∃ b, s.source i = some b ∧ Source.Change s i b a) ∨
    (∃ g r, s.source i = none ∧ s.node g.node = some r ∧ g.rank ≠ 0 ∧ (g.rank = 7 → g.cls = .edge) ∧
      a = s.newSource g r) ∨
    (∃ g b, s.source i = some b ∧ b.config.node = g.node ∧ b.config.channel = g.channel ∧ g.rank ≠ 0 ∧
      (g.rank = 7 → g.cls = .edge) ∧ (g.cls ≠ b.config.cls → b.status = .idle) ∧ a = b.update g) := by
  have kept {j : SourceIx} (hj : s.source j = some a) : ∃ b, s.source j = some b ∧ Source.Change s j b a :=
    ⟨a, hj, .refl s j a⟩
  cases h.sources with
  | changed hc _ => exact .inl (Option.Rel.of_some_right (hc i) ha)
  | promoted _ _ _ => exact .inl (kept ha)
  | loaded j g r hs hn _ h0 h7 =>
    rw [State.reEvaluateAll_source, State.source_setSource] at ha
    split at ha
    · rename_i hji
      subst hji
      exact .inr (.inl ⟨g, r, hs, hn, h0, h7, (Option.some.inj ha).symm⟩)
    · exact .inl (kept ha)
  | updated j g b hs hn hc h0 h7 hb _ =>
    rw [State.reEvaluateAll_source, State.source_setSource] at ha
    split at ha
    · rename_i hji
      subst hji
      exact .inr (.inr ⟨g, b, hs, hn, hc, h0, h7, hb, (Option.some.inj ha).symm⟩)
    · exact .inl (kept ha)
  | dropped j b hs =>
    rw [State.reEvaluateAll_source, State.withdraw_source, State.unpromote_source, State.source_setSource] at ha
    split at ha
    · cases ha
    · exact .inl (kept ha)
  | cleared =>
    rw [State.source_powerOnReset] at ha
    cases ha

/-! ## New and updated sources -/

@[simp] theorem State.newSource_config (s : State) (g : SourceConfig) (r : Node) : (s.newSource g r).config = g := by
  simp [State.newSource]

@[simp] theorem Source.update_config (g : SourceConfig) (a : Source) : (a.update g).config = g := by
  unfold Source.update
  split <;> simp

theorem Source.settled_update {g : SourceConfig} {a : Source} (h : a.Settled) : (a.update g).Settled := by
  unfold Source.update
  split
  · rename_i hc
    have ha : ({ a with config := g } : Source).active = a.active := Source.active_congr hc.symm rfl
    exact ⟨fun hp => ha.trans (h.1 hp), fun hi => ha.trans (h.2 hi)⟩
  · exact Source.settled_settle _

/-- A class changes only at an IDLE source, which has no reason of its old class set (R8 step 6, R22). -/
theorem Source.classReasons_update {g : SourceConfig} {a : Source} (h : a.ClassReasons) (hs : a.Settled)
    (hb : g.cls ≠ a.config.cls → a.status = .idle) : (a.update g).ClassReasons := by
  unfold Source.update
  split
  · rename_i hc
    exact ⟨fun hl => hc ▸ h.1 hl, fun he => hc ▸ h.2 he⟩
  · rename_i hc
    have hidle := hs.2 (hb (Ne.symm hc))
    rw [Source.active_eq] at hidle
    refine Source.classReasons_settle ⟨fun hl => ?_, fun he => ?_⟩
    · rw [h.1 hl] at hidle
      have hl' : a.reasons.latched = true := hl
      simp [hl'] at hidle
    · rw [h.2 he] at hidle
      have he' : a.reasons.edgeOwed = true := he
      simp [he'] at hidle

/-! ## R2 and R4 -/

/-- A present node stays present, but for a node without sources, and at power-on. -/
theorem Move.present {s t : State} (h : Move s t) {n : NodeId} (hn : (s.node n).isSome = true) :
    (t.node n).isSome = true ∨ s.keyedCount n = 0 ∨ t = s.powerOnReset := by
  have mod (m : NodeId) (f : Node → Node) : ((s.modNode m f).node n).isSome = true := by
    rw [State.node_modNode]
    split
    · rename_i hm
      simpa [hm] using hn
    · exact hn
  cases h with
  | aside h => exact .inl (by simpa [State.node, h.nodes] using hn)
  | event i hf => exact .inl (by simpa using hn)
  | grant k i a _ _ _ _ => exact .inl (by simpa [State.node] using hn)
  | complete k i _ => exact .inl (by simpa using hn)
  | expire k c _ => exact .inl (by simpa [State.node] using hn)
  | endSession k => exact .inl (by simpa [State.node] using hn)
  | drop i a _ => exact .inl (by simpa [State.node] using hn)
  | setBlocked i b a _ => exact .inl (by simpa [State.node] using hn)
  | record m _ => exact .inl (mod m _)
  | attempt j e p _ => exact .inl (mod e.node _)
  | create m o _ =>
    left
    rw [State.node_enqueue, State.node_setNode_same, State.node_setNode]
    split
    · rfl
    · exact hn
  | dropNode m _ hk =>
    by_cases hm : m = n
    · exact .inr (.inl (hm ▸ hk))
    · left
      rw [State.node_setNode, if_neg hm]
      exact hn
  | slotTakes j =>
    rcases s.slotTakes_cases j with ⟨ht, -⟩ | ⟨m, rest, -, -, ht⟩
    · exact .inl (by rwa [ht])
    · rw [ht]
      exact .inl (mod m _)
  | desync m r _ _ _ => exact .inl (mod m _)
  | requeue m r _ _ _ => exact .inl (mod m _)
  | resync m r q _ _ => exact .inl (mod m _)
  | lost j e _ => exact .inl (mod e.node _)
  | fieldNodesDown =>
    left
    simp only [State.node, State.fieldNodesDown, Fin.getElem_fin, Vector.getElem_ofFn] at hn ⊢
    split
    · exact hn
    · simpa using hn
  | warmReset => exact .inl (by simpa [State.node, State.warmReset] using hn)
  | powerOnReset => exact .inr (.inr rfl)
  | _ => exact .inl hn

/-- A loaded source has the key of the source that was loaded at its index, or a free key with a present node (R8). -/
theorem Move.key {s t : State} (h : Move s t) {i : SourceIx} {a : Source} (ha : t.source i = some a) :
    (∃ b, s.source i = some b ∧ b.config.node = a.config.node ∧ b.config.channel = a.config.channel) ∨
    (s.source i = none ∧ (s.node a.config.node).isSome = true) := by
  rcases h.origin ha with ⟨b, hb, hc⟩ | ⟨g, r, hs, hn, -, -, rfl⟩ | ⟨g, b, hb, hn, hc, -, -, -, rfl⟩
  · obtain ⟨v, hv⟩ := hc.config
    exact .inl ⟨b, hb, by rw [hv], by rw [hv]⟩
  · exact .inr ⟨hs, by simp [hn]⟩
  · exact .inl ⟨b, hb, by rw [Source.update_config, hn], by rw [Source.update_config, hc]⟩

theorem Move.keyLaw {s t : State} (h : Move s t) (hs : s.KeyLaw) : t.KeyLaw := by
  obtain ⟨huniq, hpres⟩ := hs
  -- a source loaded by this move has a key that no other source has
  have fresh {i j : SourceIx} {a b : Source} (hi : s.source i = none) (ha : t.source i = some a)
      (hb : t.source j = some b) (hn : a.config.node = b.config.node) (hc : a.config.channel = b.config.channel) :
      i = j := by
    cases h.sources with
    | changed hch _ =>
      obtain ⟨c, hc, -⟩ := Option.Rel.of_some_right (hch i) ha
      exact absurd (hi.symm.trans hc) (by simp)
    | promoted _ _ _ => exact absurd (hi.symm.trans ha) (by simp)
    | loaded l g r hl _ hk _ _ =>
      rw [State.reEvaluateAll_source, State.source_setSource] at ha hb
      split at ha
      · rename_i hli
        subst hli
        split at hb
        · assumption
        · rename_i hne
          obtain rfl := Option.some.inj ha
          rw [State.newSource_config] at hn hc
          exact absurd ⟨hn.symm, hc.symm⟩ ((s.keyElsewhere_eq_false l g).1 hk j (Ne.symm hne) b hb)
      · exact absurd (hi.symm.trans ha) (by simp)
    | updated l g c hl _ _ _ _ _ _ =>
      rw [State.reEvaluateAll_source, State.source_setSource] at ha
      split at ha
      · rename_i hli
        exact absurd ((hli ▸ hi).symm.trans hl) (by simp)
      · exact absurd (hi.symm.trans ha) (by simp)
    | dropped l c hl =>
      rw [State.reEvaluateAll_source, State.withdraw_source, State.unpromote_source, State.source_setSource] at ha
      split at ha
      · cases ha
      · exact absurd (hi.symm.trans ha) (by simp)
    | cleared =>
      rw [State.source_powerOnReset] at ha
      cases ha
  refine ⟨fun i a ha j b hb hn hc => ?_, fun i a ha => ?_⟩
  · rcases h.key ha with ⟨c, hc1, hcn, hcc⟩ | ⟨hi, -⟩
    · rcases h.key hb with ⟨d, hd1, hdn, hdc⟩ | ⟨hj, -⟩
      · exact huniq i c hc1 j d hd1 (by rw [hcn, hn, hdn]) (by rw [hcc, hc, hdc])
      · exact (fresh hj hb ha hn.symm hc.symm).symm
    · exact fresh hi ha hb hn hc
  · have hnode : (s.node a.config.node).isSome = true := by
      rcases h.key ha with ⟨b, hb, hn, -⟩ | ⟨-, hn⟩
      · rw [← hn]; exact hpres i b hb
      · exact hn
    rcases h.present hnode with hp | hk | rfl
    · exact hp
    · rcases h.key ha with ⟨b, hb, hn, -⟩ | ⟨hi, -⟩
      · exact absurd hn ((s.keyedCount_eq_zero _).1 hk i b hb)
      · cases h.sources with
        | changed hch _ =>
          obtain ⟨c, hc, -⟩ := Option.Rel.of_some_right (hch i) ha
          exact absurd (hi.symm.trans hc) (by simp)
        | promoted _ _ _ => exact hnode
        | loaded _ _ _ _ _ _ _ _ => exact hnode
        | updated _ _ _ _ _ _ _ _ _ _ => exact hnode
        | dropped _ _ _ => simpa [State.node] using hnode
        | cleared =>
          rw [Option.mem_def, State.source_powerOnReset] at ha
          cases ha
    · rw [Option.mem_def, State.source_powerOnReset] at ha
      cases ha

theorem Move.rankLaw {s t : State} (h : Move s t) (hs : s.RankLaw) : t.RankLaw := by
  intro i a ha
  rcases h.origin ha with ⟨b, hb, hc⟩ | ⟨g, r, -, -, h0, h7, rfl⟩ | ⟨g, b, -, -, -, h0, h7, -, rfl⟩
  · obtain ⟨v, hv⟩ := hc.config
    rw [hv]
    exact hs i b hb
  · rw [State.newSource_config]
    exact ⟨h0, h7⟩
  · rw [Source.update_config]
    exact ⟨h0, h7⟩

/-! ## R52 -/

theorem State.promotion_setPromotion (s : State) (p q : PromoSlot) (o : Option SourceIx) :
    (s.setPromotion p o).promotion[q] = if p = q then o else s.promotion[q] := by
  simp [State.setPromotion, Vector.getElem_set, Fin.ext_iff]

theorem State.promotion_unpromote (s : State) (i : SourceIx) (p : PromoSlot) :
    (s.unpromote i).promotion[p] = if s.promotion[p] = some i then none else s.promotion[p] := by
  simp [State.unpromote]

theorem Move.promotionLaw {s t : State} (h : Move s t) (hs : s.PromotionLaw) : t.PromotionLaw := by
  obtain ⟨hnamed, hone⟩ := hs
  cases h.sources with
  | changed hch hp =>
    refine ⟨fun p i hi => ?_, fun p i hi q hq => hone p i (by rwa [hp] at hi) q (by rwa [hp] at hq)⟩
    obtain ⟨a, ha, hr⟩ := hnamed p i (by rwa [hp] at hi)
    obtain ⟨b, hb, hc⟩ := Option.Rel.of_some_left (hch i) ha
    obtain ⟨v, hv⟩ := hc.config
    exact ⟨b, hb, by rw [hv]; exact hr⟩
  | promoted p o ho =>
    refine ⟨fun q i hi => ?_, fun q i hi m hm => ?_⟩
    · rw [State.reEvaluateAll_promotion, State.promotion_setPromotion] at hi
      split at hi
      · exact (ho i hi).1
      · exact hnamed q i hi
    · rw [State.reEvaluateAll_promotion, State.promotion_setPromotion] at hi hm
      split at hi
      · rename_i hq
        split at hm
        · rename_i hpm
          rw [← hq, ← hpm]
        · rename_i hpm
          exact absurd hm ((ho i hi).2 m (Ne.symm hpm))
      · rename_i hq
        split at hm
        · exact absurd hi ((ho i hm).2 q (Ne.symm hq))
        · exact hone q i hi m hm
  | loaded l g r hl _ _ _ _ =>
    refine ⟨fun p i hi => ?_, hone⟩
    obtain ⟨a, ha, hr⟩ := hnamed p i hi
    have hne : l ≠ i := fun e => absurd ((e ▸ hl).symm.trans ha) (by simp)
    exact ⟨a, (s.source_setSource_of_ne _ hne).trans ha, hr⟩
  | updated l g c hl _ _ h0 _ _ h7 =>
    refine ⟨fun p i hi => ?_, hone⟩
    obtain ⟨a, ha, hr⟩ := hnamed p i hi
    by_cases he : l = i
    · subst he
      refine ⟨c.update g, s.source_setSource_same l _, ?_⟩
      rw [Source.update_config]
      exact ⟨h0, fun h => absurd hi ((s.promoSlot_none l).1 (h7 h) p)⟩
    · exact ⟨a, (s.source_setSource_of_ne _ he).trans ha, hr⟩
  | dropped l c hl =>
    have hpromo : ∀ (p : PromoSlot) (i : SourceIx), (((((s.setSource l none).unpromote l).withdraw l c).reEvaluateAll).promotion[p] : Option SourceIx) =
        some i → i ≠ l ∧ s.promotion[p] = some i := by
      intro p i hi
      rw [State.reEvaluateAll_promotion, State.withdraw_promotion, State.promotion_unpromote] at hi
      split at hi
      · cases hi
      · rename_i hne
        exact ⟨fun e => hne (e ▸ hi), hi⟩
    refine ⟨fun p i hi => ?_, fun p i hi q hq => hone p i (hpromo p i hi).2 q (hpromo q i hq).2⟩
    obtain ⟨hne, hi'⟩ := hpromo p i hi
    obtain ⟨a, ha, hr⟩ := hnamed p i hi'
    refine ⟨a, ?_, hr⟩
    rw [Option.mem_def, State.reEvaluateAll_source, State.withdraw_source, State.unpromote_source,
      State.source_setSource_of_ne _ _ (Ne.symm hne)]
    exact ha
  | cleared =>
    exact ⟨fun p i hi => by simp [State.powerOnReset, State.reset] at hi,
      fun p i hi => by simp [State.powerOnReset, State.reset] at hi⟩

/-- Settles O52: every move keeps each of the three laws. -/
theorem tableLawsKept : Obligations.TableLawsKept :=
  ⟨⟨keptByStep_of_move fun _ _ h => h.keyLaw, keptByStep_of_move fun _ _ h => h.rankLaw⟩,
    keptByStep_of_move fun _ _ h => h.promotionLaw⟩

/-! ## R22 -/

theorem Move.pendingLaw {s t : State} (h : Move s t) (hs : s.PendingLaw) : t.PendingLaw := by
  intro i a ha
  change a.Settled
  rcases h.origin ha with ⟨b, hb, hc⟩ | ⟨g, r, -, -, -, -, rfl⟩ | ⟨g, b, hb, -, -, -, -, -, rfl⟩
  · exact hc.settled (hs i b hb)
  · exact Source.settled_settle _
  · exact Source.settled_update (hs i b hb)

end Sys2Proof.Machine
end

section
/-! PROOFS. The laws of the agents (R59, R64, R71, R80, R84, R133), kept by every move. -/

namespace Sys2Proof.Machine

open Sys2Proof

/-! ## What a move does to an agent record -/

/-- What a move does to an agent's record. -/
inductive Agent.Change : Agent → Agent → Prop where
  | alerted (a : Agent) (b : Bool) (h : b = true → a.attached = true) : Change a { a with alert := a.alert || b }
  | notices {a b : Agent} (h : a.NewNotices b) : Change a b
  | granted (a : Agent) (c : Claim) (ha : a.attached = true) (hl : a.claims.length < 8) :
      Change a { a.dropMark c.source with claims := a.claims ++ [c] }
  | unmarked (a : Agent) (i : SourceIx) : Change a (a.dropMark i)
  | dropped (a : Agent) (i : SourceIx) : Change a (a.dropClaim i)
  | expired (a : Agent) (i : SourceIx) (h : ∃ c ∈ a.claims, c.source = i) :
      Change a { (a.dropClaim i).addMark i with reclaims := satSucc a.reclaims }
  | detached (a : Agent) : Change a a.detach
  | joined (a : Agent) (x : JoinArgs) : Change a (Agent.joined x)
  | masked (a : Agent) (m : Rank) : Change a { a with mask := m }
  | served (a : Agent) (r : Rank) : Change a { a with alert := false, lastSent := r }
  | afterReset (a : Agent) : Change a Agent.afterReset
  | trans {a b c : Agent} (h : Change a b) (h' : Change b c) : Change a c

theorem Agent.Change.refl (a : Agent) : a.Change a := .notices (.refl a)

theorem Agent.Change.of_eq {a b : Agent} (h : b = a) : a.Change b := h ▸ .refl a

/-- A re-evaluation raises the alert of an attached agent only (R59). -/
theorem State.change_evaluated (s : State) (k : AgentId) : (s.agent k).Change (s.evaluated k) := by
  rw [State.evaluated_eq]
  exact .alerted _ _ fun h => (Bool.and_eq_true_iff.1 h).1

theorem State.change_reEvaluateAll (s : State) (k : AgentId) : (s.agent k).Change (s.reEvaluateAll.agent k) := by
  rw [State.agent_reEvaluateAll]
  exact s.change_evaluated k

theorem State.change_reEvaluate (s : State) (k j : AgentId) : (s.agent j).Change ((s.reEvaluate k).agent j) := by
  rw [State.agent_reEvaluate]
  split
  · rename_i h
    subst h
    exact s.change_evaluated k
  · exact .refl _

/-- An event on a source raises the alert of an attached agent only (R59). -/
theorem State.agent_changeSource_attached (s : State) (i : SourceIx) (f : Source → Source) (k : AgentId) :
    ∃ b : Bool, (b = true → (s.agent k).attached = true) ∧
      (s.changeSource i f).agent k = { s.agent k with alert := (s.agent k).alert || b } := by
  have idle : ∃ b : Bool, (b = true → (s.agent k).attached = true) ∧
      s.agent k = { s.agent k with alert := (s.agent k).alert || b } := ⟨false, nofun, by rw [Bool.or_false]⟩
  cases h : s.source i with
  | none =>
    rw [State.changeSource_vacant f h]
    exact idle
  | some a =>
    rw [State.changeSource_loaded f h]
    split
    · exact idle
    · exact ⟨_, fun hb => (Bool.and_eq_true_iff.1 hb).1, by rw [State.agent_reEvaluateAll, State.evaluated_eq]; rfl⟩

theorem State.change_changeSource (s : State) (i : SourceIx) (f : Source → Source) (k : AgentId) :
    (s.agent k).Change ((s.changeSource i f).agent k) := by
  obtain ⟨b, hb, he⟩ := s.agent_changeSource_attached i f k
  exact he ▸ .alerted _ b hb

theorem State.change_modAgent (s : State) (k j : AgentId) {f : Agent → Agent}
    (h : (s.agent k).Change (f (s.agent k))) : (s.agent j).Change ((s.modAgent k f).agent j) := by
  rw [State.agent_modAgent]
  split
  · rename_i hkj
    exact hkj ▸ h
  · exact .refl _

theorem State.change_reclaim (s : State) (k : AgentId) (c : Claim) (j : AgentId) :
    (s.agent j).Change ((s.reclaim k c).agent j) :=
  (s.change_modAgent k j (.dropped _ _)).trans (State.change_changeSource _ _ _ j)

theorem State.change_notify (s : State) (k : AgentId) (n : Notice) (j : AgentId) :
    (s.agent j).Change ((s.notify k n).agent j) := by
  refine s.change_modAgent k j ?_
  split
  · rename_i ha
    exact .notices (Agent.newNotices_putNotice ha n)
  · exact .refl _

/-- The state in which the claims of a session have been reclaimed, before the record is cleared (R67). -/
def State.afterReclaims (s : State) (k : AgentId) : State := (s.agent k).claims.foldl (fun t c => t.reclaim k c) s

theorem State.agent_endSession (s : State) (k j : AgentId) :
    (s.endSession k).agent j = if k = j then ((s.afterReclaims k).agent k).detach else (s.afterReclaims k).agent j := by
  rw [← State.agent_modAgent]
  unfold State.endSession
  dsimp only
  split <;> rfl

/-- What every reclaim of the agent's own claims keeps holds once they have all been reclaimed. -/
theorem State.afterReclaims_keeps {P : State → Prop} {s : State} {k : AgentId} (hs : P s)
    (h : ∀ t, ∀ c ∈ (s.agent k).claims, P t → P (t.reclaim k c)) : P (s.afterReclaims k) :=
  List.foldlRecOn (motive := P) _ _ hs fun t ht c hc => h t c hc ht

theorem State.change_afterReclaims (s : State) (k j : AgentId) : (s.agent j).Change ((s.afterReclaims k).agent j) :=
  State.afterReclaims_keeps (P := fun t => (s.agent j).Change (t.agent j)) (.refl _)
    fun t c _ ht => ht.trans (t.change_reclaim k c j)

theorem State.change_endSession (s : State) (k j : AgentId) : (s.agent j).Change ((s.endSession k).agent j) := by
  rw [State.agent_endSession]
  split
  · rename_i h
    subst h
    exact (s.change_afterReclaims k k).trans (.detached _)
  · exact s.change_afterReclaims k j

theorem State.agent_grant (s : State) (k : AgentId) (i : SourceIx) (a : Source) (j : AgentId) :
    ∃ t : State, s.grant k i a = t.changeSource i (Source.grant k) ∧
      t.agent j = if k = j then { (s.agent j).dropMark i with claims := (s.agent j).claims ++ [s.newClaim k i a] }
        else (s.agent j).dropMark i := by
  refine ⟨_, rfl, ?_⟩
  rw [State.agent_modAgent]
  split
  · rename_i h
    subst h
    simp [State.agent, Agent.dropMark]
  · simp [State.agent]

theorem State.change_grant {s : State} {k : AgentId} (i : SourceIx) (a : Source) (hk : (s.agent k).attached = true)
    (hl : (s.agent k).claims.length < 8) (j : AgentId) : (s.agent j).Change ((s.grant k i a).agent j) := by
  obtain ⟨t, ht, hj⟩ := s.agent_grant k i a j
  have hc : (s.agent j).Change (t.agent j) := by
    rw [hj]
    split
    · rename_i h
      subst h
      exact .granted (s.agent k) (s.newClaim k i a) hk hl
    · exact .unmarked _ i
  rw [ht]
  exact hc.trans (t.change_changeSource i _ j)

/-- The record of an agent changes as a move may change it. -/
theorem Move.agents {s t : State} (h : Move s t) (j : AgentId) : (s.agent j).Change (t.agent j) := by
  cases h with
  | aside h => exact .of_eq (by simp [State.agent, h.agents])
  | event i hf => exact s.change_changeSource i _ j
  | grant k i a _ _ hk hl => exact State.change_grant i a hk hl j
  | complete k i _ => exact (s.change_modAgent k j (.dropped _ i)).trans (State.change_changeSource _ i _ j)
  | expire k c hc =>
    by_cases hkj : k = j
    · subst hkj
      obtain ⟨b, hb, he⟩ := (s.modAgent k (Agent.dropClaim c.source)).agent_changeSource_attached c.source
        (Source.reclaim c.consumed) k
      rw [State.agent_modAgent_same] at hb he
      rw [State.agent_modAgent_same, State.reclaim, he]
      have hex : ∃ d ∈ (s.agent k).claims, d.source = c.source := ⟨c, (Agent.claimOn_some _ _ c hc).1, rfl⟩
      exact (Agent.Change.expired _ c.source hex).trans (.alerted _ b hb)
    · rw [State.agent_modAgent, if_neg hkj]
      exact s.change_reclaim k c j
  | endSession k => exact s.change_endSession k j
  | join k a _ =>
    refine Agent.Change.trans ?_ (State.change_reEvaluate _ k j)
    rw [State.agent_setAgent]
    split
    · exact .joined _ a
    · exact .refl _
  | setMask k m => exact (s.change_modAgent k j (.masked _ m)).trans (State.change_reEvaluate _ k j)
  | notices A hA => exact .notices (hA j)
  | served k => exact s.change_modAgent k j (.served _ _)
  | promote p i a _ _ _ _ => exact (s.setPromotion p (some i)).change_reEvaluateAll j
  | clearPromotion p => exact (s.setPromotion p none).change_reEvaluateAll j
  | load i g r _ _ _ _ _ => exact (s.setSource i _).change_reEvaluateAll j
  | update i g a _ _ _ _ _ _ _ => exact (s.setSource i _).change_reEvaluateAll j
  | drop i a _ =>
    refine Agent.Change.trans ?_ (State.change_reEvaluateAll _ j)
    unfold State.withdraw
    split
    · rename_i k _
      exact (((s.setSource i none).unpromote i).change_modAgent k j (.dropped _ i)).trans (State.change_notify _ _ _ j)
    · exact .refl _
    · exact .refl _
  | setBlocked i b a _ =>
    unfold State.setBlocked
    dsimp only
    split
    · exact .refl _
    · exact (s.setSource i _).change_reEvaluateAll j
  | slotTakes m => exact .of_eq (by simp)
  | warmReset =>
    have hj : s.warmReset.agent j = Agent.afterReset := by simp [State.agent, State.warmReset]
    exact hj ▸ .afterReset _
  | powerOnReset =>
    have hj : s.powerOnReset.agent j = Agent.afterReset := by simp [State.agent, State.powerOnReset, State.reset]
    exact hj ▸ .afterReset _
  | _ => exact .refl _

/-! ## R64, R80, R84 -/

/-- A DETACHED agent holds nothing (R64). -/
def Agent.DetachedEmpty (a : Agent) : Prop :=
  a.attached = false → a.claims = [] ∧ a.marks = [] ∧ a.notices = [] ∧ a.alert = false

theorem Agent.Change.detachedEmpty {a b : Agent} (h : a.Change b) (ha : a.DetachedEmpty) : b.DetachedEmpty := by
  induction h with
  | alerted a b hb =>
    intro hd
    obtain ⟨hc, hm, hn, hal⟩ := ha hd
    refine ⟨hc, hm, hn, ?_⟩
    cases b with
    | false => simpa using hal
    | true => exact absurd ((hb rfl).symm.trans hd) (by simp)
  | @notices a b hb =>
    intro hd
    have hda : a.attached = false := by rw [hb.rest] at hd; exact hd
    obtain ⟨hc, hm, hn, hal⟩ := ha hda
    have hnil := hb.detached hda hn
    rw [hb.rest]
    exact ⟨hc, hm, hnil, hal⟩
  | granted a c hatt _ => exact fun hd => absurd (hatt.symm.trans hd) (by simp)
  | unmarked a i =>
    intro hd
    obtain ⟨hc, hm, hn, hal⟩ := ha hd
    exact ⟨hc, by simp [Agent.dropMark, hm], hn, hal⟩
  | dropped a i =>
    intro hd
    obtain ⟨hc, hm, hn, hal⟩ := ha hd
    exact ⟨by simp [Agent.dropClaim, hc], hm, hn, hal⟩
  | expired a i hex =>
    intro hd
    obtain ⟨c, hc, -⟩ := hex
    rw [(ha hd).1] at hc
    cases hc
  | detached a => exact fun _ => ⟨rfl, rfl, rfl, rfl⟩
  | joined a x => exact nofun
  | masked a m => exact ha
  | served a r =>
    intro hd
    obtain ⟨hc, hm, hn, -⟩ := ha hd
    exact ⟨hc, hm, hn, rfl⟩
  | afterReset a => exact fun _ => ⟨rfl, rfl, rfl, rfl⟩
  | trans _ _ ih ih' => exact ih' (ih ha)

theorem Move.detachedLaw {s t : State} (h : Move s t) (hs : s.DetachedLaw) : t.DetachedLaw :=
  fun k => (h.agents k).detachedEmpty (hs k)

/-- The lists of an agent are within 8, and no index is marked twice, or claimed and marked (R71, R80, R84). -/
def Agent.ListsWithin (a : Agent) : Prop :=
  a.claims.length ≤ 8 ∧ a.marks.length ≤ 8 ∧ a.notices.length ≤ 8 ∧
    (a.noticesLost = true → a.notices.length = 8) ∧ a.marks.Nodup ∧ ∀ c ∈ a.claims, c.source ∉ a.marks

/-- The newest mark is added and, at 8 marks, the oldest dropped (R80). -/
theorem Agent.listsWithin_expired {a : Agent} {i : SourceIx} (h : a.ListsWithin) (hi : i ∉ a.marks) :
    { (a.dropClaim i).addMark i with reclaims := satSucc a.reclaims }.ListsWithin := by
  obtain ⟨hc, hm, hn, hnl, hnd, hcm⟩ := h
  have hsub : (if a.marks.length < 8 then a.marks else a.marks.tail).Sublist a.marks := by
    split
    · exact List.Sublist.refl _
    · exact List.tail_sublist _
  have hlen : (if a.marks.length < 8 then a.marks else a.marks.tail).length ≤ 7 := by
    split
    · omega
    · rw [List.length_tail]; omega
  refine ⟨(List.length_filter_le _ _).trans hc, ?_, hn, hnl, ?_, fun c hcl => ?_⟩
  · change (_ ++ [i]).length ≤ 8
    rw [List.length_append, List.length_singleton]
    exact Nat.succ_le_succ hlen
  · exact (hnd.sublist hsub).append (List.nodup_singleton i)
      (List.disjoint_singleton.2 fun hx => hi (hsub.subset hx))
  · obtain ⟨hcl, hne⟩ := List.mem_filter.1 hcl
    change c.source ∉ _ ++ [i]
    rw [List.mem_append, List.mem_singleton]
    rintro (hx | hx)
    · exact hcm c hcl (hsub.subset hx)
    · exact (of_decide_eq_true hne) hx

theorem Agent.Change.listsWithin {a b : Agent} (h : a.Change b) (ha : a.ListsWithin) : b.ListsWithin := by
  induction h with
  | alerted a b hb => exact ha
  | @notices a b hb =>
    obtain ⟨hc, hm, hn, hnl, hnd, hcm⟩ := ha
    obtain ⟨hn', hnl'⟩ := hb.within hn hnl
    rw [hb.rest]
    exact ⟨hc, hm, hn', hnl', hnd, hcm⟩
  | granted a c _ hl =>
    obtain ⟨hc, hm, hn, hnl, hnd, hcm⟩ := ha
    refine ⟨by simpa using hl, (List.length_filter_le _ _).trans hm, hn, hnl, hnd.filter _, fun d hd hx => ?_⟩
    obtain ⟨hx, hne⟩ := List.mem_filter.1 hx
    rcases List.mem_append.1 hd with hd | hd
    · exact hcm d hd hx
    · rw [List.mem_singleton.1 hd] at hne
      simp at hne
  | unmarked a i =>
    obtain ⟨hc, hm, hn, hnl, hnd, hcm⟩ := ha
    exact ⟨hc, (List.length_filter_le _ _).trans hm, hn, hnl, hnd.filter _,
      fun d hd hx => hcm d hd (List.mem_filter.1 hx).1⟩
  | dropped a i =>
    obtain ⟨hc, hm, hn, hnl, hnd, hcm⟩ := ha
    exact ⟨(List.length_filter_le _ _).trans hc, hm, hn, hnl, hnd, fun d hd => hcm d (List.mem_filter.1 hd).1⟩
  | expired a i hex =>
    obtain ⟨c, hc, rfl⟩ := hex
    exact Agent.listsWithin_expired ha (ha.2.2.2.2.2 c hc)
  | detached a => exact ⟨by simp [Agent.detach], by simp [Agent.detach], by simp [Agent.detach], nofun, by simp [Agent.detach], nofun⟩
  | joined a x =>
    exact ⟨by simp [Agent.joined, Agent.afterReset], by simp [Agent.joined, Agent.afterReset],
      by simp [Agent.joined, Agent.afterReset], nofun, by simp [Agent.joined, Agent.afterReset], nofun⟩
  | masked a m => exact ha
  | served a r => exact ha
  | afterReset a =>
    exact ⟨by simp [Agent.afterReset], by simp [Agent.afterReset], by simp [Agent.afterReset], nofun,
      by simp [Agent.afterReset], nofun⟩
  | trans _ _ ih ih' => exact ih' (ih ha)

theorem Move.listLaw {s t : State} (h : Move s t) (hs : s.ListLaw) : t.ListLaw :=
  fun k => (h.agents k).listsWithin (hs k)

/-! ## R133 -/

theorem Agent.attached_congr {a b : Agent} (h : a.session = b.session) : a.attached = b.attached := by
  simp only [Agent.attached, h]

@[simp] theorem State.modAgent_agent_session (s : State) (k j : AgentId) (f : Agent → Agent)
    (h : (f (s.agent k)).session = (s.agent k).session) : ((s.modAgent k f).agent j).session = (s.agent j).session := by
  rw [State.agent_modAgent]
  split
  · rename_i hkj
    rw [h, hkj]
  · rfl

theorem State.session_reclaim (s : State) (k : AgentId) (c : Claim) (j : AgentId) :
    ((s.reclaim k c).agent j).session = (s.agent j).session := by
  rw [State.reclaim, State.changeSource_agent_session, State.modAgent_agent_session _ _ _ _ rfl]

theorem State.session_afterReclaims (s : State) (k j : AgentId) :
    ((s.afterReclaims k).agent j).session = (s.agent j).session :=
  State.afterReclaims_keeps (P := fun t => (t.agent j).session = (s.agent j).session) rfl
    fun t c _ ht => (t.session_reclaim k c j).trans ht

theorem State.role_endSession (s : State) (k : AgentId) :
    (s.endSession k).role = if s.role = some k then none else s.role := by
  have hr : ((s.afterReclaims k).modAgent k Agent.detach).role = s.role :=
    State.afterReclaims_keeps (P := fun t => t.role = s.role) rfl fun t c _ ht => (t.reclaim_role k c).trans ht
  unfold State.endSession
  dsimp only
  change (if ((s.afterReclaims k).modAgent k Agent.detach).role = some k then _ else _ : State).role = _
  rw [hr]
  split
  · rfl
  · exact hr

/-- Role and sessions stay, but where a session begins or ends and at the resets. -/
theorem Move.sessions {s t : State} (h : Move s t) :
    (t.role = s.role ∧ ∀ j, (t.agent j).session = (s.agent j).session) ∨
    (∃ k a, (s.agent k).attached = false ∧
      t = ({ s with role := s.roleAfterJoin k a }.setAgent k (Agent.joined a)).reEvaluate k) ∨
    (∃ k, t = s.endSession k) ∨ t.role = none := by
  cases h with
  | aside h => exact .inl ⟨h.role, fun j => by simp [State.agent, h.agents]⟩
  | event i hf => exact .inl ⟨by simp, fun j => by simp⟩
  | grant k i a _ _ hk hl =>
    refine .inl ⟨by simp, fun j => ?_⟩
    obtain ⟨t, ht, hj⟩ := s.agent_grant k i a j
    rw [ht, State.changeSource_agent_session, hj]
    split <;> rfl
  | complete k i _ =>
    exact .inl ⟨by simp, fun j => by rw [State.changeSource_agent_session, State.modAgent_agent_session _ _ _ _ rfl]⟩
  | expire k c _ =>
    exact .inl ⟨by simp, fun j => by rw [State.modAgent_agent_session _ _ _ _ rfl, State.session_reclaim]⟩
  | endSession k => exact .inr (.inr (.inl ⟨k, rfl⟩))
  | join k a ha => exact .inr (.inl ⟨k, a, ha, rfl⟩)
  | setMask k m =>
    exact .inl ⟨rfl, fun j => by rw [State.reEvaluate_agent_session, State.modAgent_agent_session _ _ _ _ rfl]⟩
  | notices A hA =>
    refine .inl ⟨rfl, fun j => ?_⟩
    change (A[j]).session = _
    rw [(hA j).rest]
  | served k => exact .inl ⟨rfl, fun j => State.modAgent_agent_session _ _ _ _ rfl⟩
  | promote p i a _ _ _ _ => exact .inl ⟨rfl, fun j => State.reEvaluateAll_agent_session _ j⟩
  | clearPromotion p => exact .inl ⟨rfl, fun j => State.reEvaluateAll_agent_session _ j⟩
  | load i g r _ _ _ _ _ => exact .inl ⟨rfl, fun j => State.reEvaluateAll_agent_session _ j⟩
  | update i g a _ _ _ _ _ _ _ => exact .inl ⟨rfl, fun j => State.reEvaluateAll_agent_session _ j⟩
  | drop i a _ =>
    refine .inl ⟨by simp, fun j => ?_⟩
    rw [State.reEvaluateAll_agent_session]
    unfold State.withdraw
    split
    · rw [State.notify_agent_session, State.modAgent_agent_session _ _ _ _ rfl]
      rfl
    · rfl
    · rfl
  | setBlocked i b a _ =>
    refine .inl ⟨by simp, fun j => ?_⟩
    unfold State.setBlocked
    dsimp only
    split
    · rfl
    · exact State.reEvaluateAll_agent_session _ j
  | slotTakes m => exact .inl ⟨by simp, fun j => by simp⟩
  | warmReset => exact .inr (.inr (.inr rfl))
  | powerOnReset => exact .inr (.inr (.inr rfl))
  | _ => exact .inl ⟨rfl, fun _ => rfl⟩

theorem Move.roleLaw {s t : State} (h : Move s t) (hs : s.RoleLaw) : t.RoleLaw := by
  intro j hj
  rcases h.sessions with ⟨hr, hses⟩ | ⟨k, a, -, rfl⟩ | ⟨k, rfl⟩ | hr
  · rw [Agent.attached_congr (hses j)]
    exact hs j (hr ▸ hj)
  · rw [Agent.attached_congr (State.reEvaluate_agent_session _ k j), State.agent_setAgent]
    split
    · rfl
    · rename_i hkj
      have hold : s.role = some j := by
        have hj' : s.roleAfterJoin k a = some j := hj
        unfold State.roleAfterJoin at hj'
        split at hj'
        · exact absurd (Option.some.inj hj') hkj
        · exact hj'
      exact hs j hold
  · rw [Option.mem_def, State.role_endSession] at hj
    split at hj
    · cases hj
    · rename_i hne
      have hkj : k ≠ j := fun e => hne (e ▸ hj)
      rw [State.agent_endSession, if_neg hkj, Agent.attached_congr (s.session_afterReclaims k j)]
      exact hs j hj
  · rw [hr] at hj
    cases hj

/-- Settles O54: every move keeps the law of the role and, at each agent's record, the other two. -/
theorem agentLawsKept : Obligations.AgentLawsKept :=
  ⟨⟨keptByStep_of_move fun _ _ h => h.roleLaw, keptByStep_of_move fun _ _ h => h.detachedLaw⟩,
    keptByStep_of_move fun _ _ h => h.listLaw⟩

end Sys2Proof.Machine
end

section
/-! PROOFS. Holdings and claims (R71), the reasons a claim consumed (R22, R40), and the alert flags (R59, R89), kept by
every move. -/

namespace Sys2Proof.Machine

open Sys2Proof

/-! ## What a move does to holdings and claim lists -/

/-- Agent `k` holds the source at index `i` (R24). -/
def State.Held (s : State) (i : SourceIx) (k : AgentId) : Prop := ∃ a, s.source i = some a ∧ a.status = .held k

/-- Holdings and claim lists are the same. -/
def State.SameHoldings (s t : State) : Prop :=
  (∀ i k, t.Held i k ↔ s.Held i k) ∧ ∀ k, (t.agent k).claims = (s.agent k).claims

/-- Agent `k` gives up the source at `i`: it is not HELD any more, and not on the agent's claim list. -/
def State.Released (s t : State) (k : AgentId) (i : SourceIx) : Prop :=
  (∀ j h, t.Held j h ↔ s.Held j h ∧ i ≠ j) ∧
  ∀ h, (t.agent h).claims =
    if k = h then (s.agent h).claims.filter fun c => decide (c.source ≠ i) else (s.agent h).claims

section
variable {s t : State}

theorem State.held_congr {i : SourceIx} (h : t.source i = s.source i) (k : AgentId) : t.Held i k ↔ s.Held i k := by
  simp only [State.Held, h]

theorem State.not_held_of_none {i : SourceIx} (h : s.source i = none) (k : AgentId) : ¬ s.Held i k := by
  rintro ⟨a, ha, -⟩
  exact absurd (h.symm.trans ha) (by simp)

theorem State.held_iff_of_source {i : SourceIx} {a : Source} (h : s.source i = some a) (k : AgentId) :
    s.Held i k ↔ a.status = .held k :=
  ⟨fun ⟨b, hb, hk⟩ => by rwa [Option.some.inj (h.symm.trans hb)], fun hk => ⟨a, h, hk⟩⟩

/-- A map that keeps what is HELD keeps the holding. -/
theorem State.held_map {i : SourceIx} {f : Source → Source} (h : t.source i = (s.source i).map f) {k : AgentId}
    (hf : ∀ a, s.source i = some a → ((f a).status = .held k ↔ a.status = .held k)) : t.Held i k ↔ s.Held i k := by
  cases hs : s.source i with
  | none =>
    rw [hs] at h
    exact iff_of_false (State.not_held_of_none h k) (State.not_held_of_none hs k)
  | some a =>
    rw [hs] at h
    rw [State.held_iff_of_source h, State.held_iff_of_source hs, hf a hs]

theorem State.sameHoldings_of_sources (h : ∀ i, t.source i = s.source i)
    (hc : ∀ k, (t.agent k).claims = (s.agent k).claims) : s.SameHoldings t :=
  ⟨fun i k => State.held_congr (h i) k, hc⟩

theorem Source.complete_not_held (a : Source) (k : AgentId) : a.complete.status ≠ .held k := by
  cases h : a.active <;> simp [Source.complete, Source.implied, h]

/-- A source that is completed or reclaimed is HELD no more, and the other holdings stay. -/
theorem State.held_changeSource_of_not_held {u : State} {i : SourceIx} {f : Source → Source} (hu : ∀ j, u.source j = s.source j)
    (hf : ∀ a k, (f a).status ≠ .held k) (j : SourceIx) (h : AgentId) :
    (u.changeSource i f).Held j h ↔ s.Held j h ∧ i ≠ j := by
  by_cases hij : i = j
  · subst hij
    refine iff_of_false ?_ fun hx => hx.2 rfl
    rintro ⟨a, ha, hk⟩
    rw [State.source_changeSource, if_pos rfl] at ha
    obtain ⟨b, -, rfl⟩ := Option.map_eq_some_iff.1 ha
    exact hf b h hk
  · have hj : (u.changeSource i f).source j = s.source j := by rw [State.source_changeSource, if_neg hij, hu]
    rw [State.held_congr hj]
    exact ⟨fun hx => ⟨hx, hij⟩, And.left⟩

theorem State.claims_modAgent_dropClaim (s : State) (k : AgentId) (i : SourceIx) (h : AgentId) :
    ((s.modAgent k (Agent.dropClaim i)).agent h).claims =
      if k = h then (s.agent h).claims.filter (fun c => decide (c.source ≠ i)) else (s.agent h).claims := by
  rw [State.agent_modAgent]
  split
  · rename_i hkh
    subst hkh
    rfl
  · rfl

theorem State.released_complete (s : State) (k : AgentId) (i : SourceIx) :
    s.Released ((s.modAgent k (Agent.dropClaim i)).changeSource i Source.complete) k i :=
  ⟨State.held_changeSource_of_not_held (fun _ => rfl) Source.complete_not_held,
    fun h => by rw [State.changeSource_agent_claims, State.claims_modAgent_dropClaim]⟩

theorem State.released_reclaim (s : State) (k : AgentId) (c : Claim) : s.Released (s.reclaim k c) k c.source :=
  ⟨State.held_changeSource_of_not_held (fun _ => rfl) fun a => Source.reclaim_not_held a c.consumed,
    s.claims_reclaim k c⟩

end

theorem State.held_afterReclaims (s : State) (k : AgentId) (i : SourceIx) (h : AgentId) :
    (s.afterReclaims k).Held i h ↔ s.Held i h ∧ ∀ c ∈ (s.agent k).claims, c.source ≠ i := by
  have fold (l : List Claim) (u : State) :
      (l.foldl (fun t c => t.reclaim k c) u).Held i h ↔ u.Held i h ∧ ∀ c ∈ l, c.source ≠ i := by
    induction l generalizing u with
    | nil => simp
    | cons c l ih =>
      rw [List.foldl_cons, ih, (u.released_reclaim k c).1, List.forall_mem_cons, and_assoc]
  exact fold _ s

theorem State.claims_afterReclaims (s : State) {k j : AgentId} (h : k ≠ j) :
    ((s.afterReclaims k).agent j).claims = (s.agent j).claims :=
  State.afterReclaims_keeps (P := fun t => (t.agent j).claims = (s.agent j).claims) rfl
    fun t c _ ht => by rw [State.claims_reclaim, if_neg h, ht]

theorem State.held_endSession (s : State) (k : AgentId) (i : SourceIx) (h : AgentId) :
    (s.endSession k).Held i h ↔ s.Held i h ∧ ∀ c ∈ (s.agent k).claims, c.source ≠ i := by
  rw [State.held_congr (s.source_endSession k i)]
  exact s.held_afterReclaims k i h

theorem State.claims_endSession (s : State) (k j : AgentId) :
    ((s.endSession k).agent j).claims = if k = j then [] else (s.agent j).claims := by
  rw [State.agent_endSession]
  split
  · rfl
  · rename_i h
    exact s.claims_afterReclaims h

theorem Source.update_held_iff {g : SourceConfig} {a : Source} (hb : g.cls ≠ a.config.cls → a.status = .idle)
    (k : AgentId) : (a.update g).status = .held k ↔ a.status = .held k := by
  unfold Source.update
  split
  · rfl
  · rename_i hc
    have hidle := hb (Ne.symm hc)
    rw [Source.settle_status_of_not_held (by simp [Source.isHeld, hidle]), hidle]
    split <;> simp

theorem State.newSource_not_held (s : State) (g : SourceConfig) (r : Node) (k : AgentId) :
    (s.newSource g r).status ≠ .held k := by
  unfold State.newSource
  rw [Source.settle_status_of_not_held rfl]
  split <;> simp

/-- What a move does to holdings and claim lists: nothing; a grant; one source given up; a session ended or begun; or
everything is cleared. -/
inductive State.HoldingsChange (s t : State) : Prop where
  | same (h : s.SameHoldings t)
  | granted (k : AgentId) (i : SourceIx) (a : Source) (hs : s.source i = some a) (hp : a.status = .pending)
      (held : ∀ j h, t.Held j h ↔ if i = j then k = h else s.Held j h)
      (claims : ∀ h, (t.agent h).claims = if k = h then (s.agent h).claims ++ [s.newClaim k i a] else (s.agent h).claims)
  | released (k : AgentId) (i : SourceIx) (hk : s.Held i k ∨ ∃ c ∈ (s.agent k).claims, c.source = i)
      (h : s.Released t k i)
  | ended (k : AgentId) (held : ∀ i h, t.Held i h ↔ s.Held i h ∧ ∀ c ∈ (s.agent k).claims, c.source ≠ i)
      (claims : ∀ h, (t.agent h).claims = if k = h then [] else (s.agent h).claims)
  | begun (k : AgentId) (hd : (s.agent k).attached = false) (held : ∀ i h, t.Held i h ↔ s.Held i h)
      (claims : ∀ h, (t.agent h).claims = if k = h then [] else (s.agent h).claims)
  | cleared (held : ∀ i h, ¬ t.Held i h) (claims : ∀ h, (t.agent h).claims = [])

section
variable (s : State)

theorem State.sameHoldings_changeSource (i : SourceIx) {f : Source → Source}
    (hf : ∀ a k, (f a).status = .held k ↔ a.status = .held k) : s.SameHoldings (s.changeSource i f) := by
  refine ⟨fun j k => ?_, fun k => by simp⟩
  by_cases hij : i = j
  · subst hij
    exact State.held_map (by rw [State.source_changeSource, if_pos rfl]) fun a _ => hf a k
  · exact State.held_congr (by rw [State.source_changeSource, if_neg hij]) k

/-- A source written at one index, where what is HELD there stays so. -/
theorem State.sameHoldings_setSource {t : State} {i : SourceIx} {b : Source}
    (ht : ∀ j, t.source j = if i = j then some b else s.source j) (hb : ∀ k, b.status = .held k ↔ s.Held i k)
    (hc : ∀ k, (t.agent k).claims = (s.agent k).claims) : s.SameHoldings t := by
  refine ⟨fun j k => ?_, hc⟩
  have hj := ht j
  by_cases hij : i = j
  · subst hij
    rw [if_pos rfl] at hj
    exact (State.held_iff_of_source hj k).trans (hb k)
  · rw [if_neg hij] at hj
    exact State.held_congr hj k

theorem State.held_grant (k : AgentId) {i : SourceIx} {a : Source} (hs : s.source i = some a) (j : SourceIx) (h : AgentId) :
    (s.grant k i a).Held j h ↔ if i = j then k = h else s.Held j h := by
  have hj := s.source_grant k i a j
  split
  · rename_i hij
    subst hij
    rw [if_pos rfl, hs] at hj
    rw [State.held_iff_of_source hj]
    simp [Source.grant]
  · rename_i hij
    rw [if_neg hij] at hj
    exact State.held_congr hj h

/-- The claim of an expiry leaves the list; the other changes to its agent leave the lists alone (R79). -/
theorem State.released_expire (k : AgentId) (c : Claim) : s.Released
    ((s.reclaim k c).modAgent k fun a => { a.addMark c.source with reclaims := satSucc a.reclaims }) k c.source := by
  obtain ⟨hheld, hclaims⟩ := s.released_reclaim k c
  refine ⟨hheld, fun h => ?_⟩
  rw [← hclaims h, State.agent_modAgent]
  split
  · rename_i hkh
    rw [← hkh]
    rfl
  · rfl

/-- A change of an agent's record that leaves its claims. -/
theorem State.claims_modAgent (k : AgentId) {f : Agent → Agent} (hf : ∀ a, (f a).claims = a.claims) (h : AgentId) :
    ((s.modAgent k f).agent h).claims = (s.agent h).claims := by
  rw [State.agent_modAgent]
  split
  · rename_i hkh
    rw [← hkh, hf]
  · rfl

variable {s}

theorem State.held_dropped {i : SourceIx} {a : Source} (j : SourceIx) (h : AgentId) :
    ((((s.setSource i none).unpromote i).withdraw i a).reEvaluateAll).Held j h ↔ s.Held j h ∧ i ≠ j := by
  have hsrc : ((((s.setSource i none).unpromote i).withdraw i a).reEvaluateAll).source j =
      if i = j then none else s.source j := by
    rw [State.reEvaluateAll_source, State.withdraw_source, State.unpromote_source, State.source_setSource]
  by_cases hij : i = j
  · exact iff_of_false (State.not_held_of_none (by rw [hsrc, if_pos hij]) h) fun hx => hx.2 hij
  · exact (State.held_congr (hsrc.trans (if_neg hij)) h).trans ⟨fun hx => ⟨hx, hij⟩, And.left⟩

/-- A source that is not HELD is dropped without a change of holdings; a HELD one is given up (R13, R14). -/
theorem State.holdings_dropped {i : SourceIx} {a : Source} (hs : s.source i = some a) :
    s.HoldingsChange (((s.setSource i none).unpromote i).withdraw i a).reEvaluateAll := by
  have free (hfree : ∀ k, a.status ≠ .held k)
      (hclaims : ∀ h, ((((s.setSource i none).unpromote i).withdraw i a).agent h).claims = (s.agent h).claims) :
      s.SameHoldings (((s.setSource i none).unpromote i).withdraw i a).reEvaluateAll :=
    ⟨fun j h => (State.held_dropped j h).trans ⟨And.left, fun hx => ⟨hx, fun hij => by
      subst hij
      exact hfree h ((State.held_iff_of_source hs h).1 hx)⟩⟩,
      fun h => (State.reEvaluateAll_agent_claims _ h).trans (hclaims h)⟩
  cases hst : a.status with
  | idle => exact .same (free (fun k => by simp [hst]) fun h => by simp [State.withdraw, hst])
  | pending => exact .same (free (fun k => by simp [hst]) fun h => by simp [State.withdraw, hst])
  | held k =>
    refine .released k i (.inl ⟨a, hs, hst⟩) ⟨State.held_dropped, fun h => ?_⟩
    rw [State.reEvaluateAll_agent_claims]
    simp only [State.withdraw, hst]
    rw [State.notify_agent_claims, State.claims_modAgent_dropClaim]
    rfl

theorem State.sameHoldings_setBlocked (i : SourceIx) (b : Bool) {a : Source} (hs : s.source i = some a) :
    s.SameHoldings (s.setBlocked i b a) := by
  refine s.sameHoldings_setSource (s.source_setBlocked i b a) (fun k => (State.held_iff_of_source hs k).symm) fun h => ?_
  unfold State.setBlocked
  dsimp only
  split
  · rfl
  · exact State.reEvaluateAll_agent_claims _ h

end

theorem Move.holdings {s t : State} (h : Move s t) : s.HoldingsChange t := by
  cases h with
  | aside h =>
    exact .same (State.sameHoldings_of_sources (fun i => by simp [State.source, h.sources])
      fun k => by simp [State.agent, h.agents])
  | event i hf => exact .same (s.sameHoldings_changeSource i hf.held_iff)
  | grant k i a hs hp _ _ => exact .granted k i a hs hp (s.held_grant k hs) fun h => by rw [State.claims_grant]
  | complete k i hc =>
    obtain ⟨c, hc⟩ := Option.isSome_iff_exists.1 hc
    exact .released k i (.inr ⟨c, Agent.claimOn_some _ _ c hc⟩) (s.released_complete k i)
  | expire k c hc => exact .released k c.source (.inr ⟨c, Agent.claimOn_some _ _ c hc⟩) (s.released_expire k c)
  | endSession k => exact .ended k (s.held_endSession k) (s.claims_endSession k)
  | join k a ha =>
    refine .begun k ha (fun _ _ => Iff.rfl) fun h => ?_
    rw [State.reEvaluate_agent_claims, State.agent_setAgent]
    split <;> rfl
  | setMask k m =>
    refine .same (State.sameHoldings_of_sources (fun _ => rfl) fun h => ?_)
    rw [State.reEvaluate_agent_claims]
    exact s.claims_modAgent k (f := fun a => { a with mask := m }) (fun _ => rfl) h
  | notices A hA =>
    refine .same (State.sameHoldings_of_sources (fun _ => rfl) fun k => ?_)
    change (A[k]).claims = _
    rw [(hA k).rest]
  | served k => exact .same (State.sameHoldings_of_sources (fun _ => rfl) (s.claims_modAgent k fun _ => rfl))
  | promote p i a _ _ _ _ =>
    exact .same (State.sameHoldings_of_sources (fun _ => rfl) fun h => State.reEvaluateAll_agent_claims _ h)
  | clearPromotion p =>
    exact .same (State.sameHoldings_of_sources (fun _ => rfl) fun h => State.reEvaluateAll_agent_claims _ h)
  | load i g r hs _ _ _ _ =>
    refine .same (s.sameHoldings_setSource (fun j => s.source_setSource i j (some (s.newSource g r))) (fun k => ?_)
      fun h => State.reEvaluateAll_agent_claims _ h)
    exact iff_of_false (s.newSource_not_held g r k) (State.not_held_of_none hs k)
  | update i g a hs _ _ _ _ hb _ =>
    refine .same (s.sameHoldings_setSource (fun j => s.source_setSource i j (some (a.update g))) (fun k => ?_)
      fun h => State.reEvaluateAll_agent_claims _ h)
    exact (Source.update_held_iff hb k).trans (State.held_iff_of_source hs k).symm
  | drop i a hs => exact State.holdings_dropped hs
  | setBlocked i b a hs => exact .same (State.sameHoldings_setBlocked i b hs)
  | slotTakes j => exact .same (State.sameHoldings_of_sources (fun i => by simp) fun k => by simp)
  | desync n r _ _ _ =>
    exact .same ⟨fun i k => State.held_map (State.source_markUncertain _ n true i) fun a _ => by split <;> rfl,
      fun _ => rfl⟩
  | resync n r q _ _ =>
    exact .same ⟨fun i k => State.held_map (State.source_markUncertain s n false i) fun a _ => by split <;> rfl,
      fun _ => rfl⟩
  | fieldNodesDown =>
    exact .same ⟨fun i k => State.held_map (s.source_fieldNodesDown i) fun a _ => by split <;> rfl, fun _ => rfl⟩
  | warmReset =>
    refine .cleared ?_ fun h => by simp [State.agent, State.warmReset, Agent.afterReset]
    rintro i h ⟨a, ha, hk⟩
    obtain ⟨b, -, rfl⟩ := Option.map_eq_some_iff.1 ((s.source_warmReset i).symm.trans ha)
    cases hk
  | powerOnReset =>
    exact .cleared (fun i h => State.not_held_of_none (s.source_powerOnReset i) h)
      fun h => by simp [State.agent, State.powerOnReset, State.reset, Agent.afterReset]
  | _ => exact .same (State.sameHoldings_of_sources (fun _ => rfl) fun _ => rfl)

/-! ## R71 -/

/-- Every claim is on a source that its agent holds: the half of the claim law that needs no other law. -/
def State.ClaimsHeld (s : State) : Prop := ∀ k, ∀ c ∈ (s.agent k).claims, s.Held c.source k

theorem State.ClaimLaw.claimsHeld {s : State} (h : s.ClaimLaw) : s.ClaimsHeld := fun k c hc => (h.1 c.source k).2 ⟨c, hc, rfl⟩

theorem State.held_unique {s : State} {i : SourceIx} {k h : AgentId} (hk : s.Held i k) (hh : s.Held i h) : k = h := by
  obtain ⟨a, ha, hka⟩ := hk
  have := (State.held_iff_of_source ha h).1 hh
  rw [hka] at this
  exact Status.held.inj this

theorem State.not_held_of_pending {s : State} {i : SourceIx} {a : Source} (hs : s.source i = some a)
    (hp : a.status = .pending) (k : AgentId) : ¬ s.Held i k := fun h => by
  rw [State.held_iff_of_source hs, hp] at h
  cases h

theorem Move.claimsHeld {s t : State} (h : Move s t) (hs : s.ClaimsHeld) : t.ClaimsHeld := by
  intro j c hc
  cases h.holdings with
  | same h => exact (h.1 _ j).2 (hs j c (h.2 j ▸ hc))
  | granted k i a ha hp hh hcl =>
    rw [hh]
    have old (hd : c ∈ (s.agent j).claims) : if i = c.source then k = j else s.Held c.source j := by
      have hheld := hs j c hd
      have hne : i ≠ c.source := fun e => State.not_held_of_pending ha hp j (e ▸ hheld)
      rwa [if_neg hne]
    rw [hcl] at hc
    split at hc
    · rename_i hkj
      rcases List.mem_append.1 hc with hc | hc
      · exact old hc
      · obtain rfl := List.mem_singleton.1 hc
        exact (if_pos rfl).mpr hkj
    · exact old hc
  | released k i hki h =>
    obtain ⟨hh, hcl⟩ := h
    have hik : s.Held i k := hki.elim id fun ⟨d, hd, hdi⟩ => hdi ▸ hs k d hd
    rw [hcl] at hc
    split at hc
    · obtain ⟨hc, hne⟩ := List.mem_filter.1 hc
      exact (hh _ j).2 ⟨hs j c hc, fun e => (of_decide_eq_true hne) e.symm⟩
    · rename_i hkj
      exact (hh _ j).2 ⟨hs j c hc, fun e => hkj (State.held_unique hik (e ▸ hs j c hc))⟩
  | ended k hh hcl =>
    rw [hcl] at hc
    split at hc
    · cases hc
    · rename_i hkj
      refine (hh _ j).2 ⟨hs j c hc, fun d hd e => hkj ?_⟩
      exact State.held_unique (hs k d hd) (e ▸ hs j c hc)
  | begun k _ hh hcl =>
    rw [hcl] at hc
    split at hc
    · cases hc
    · exact (hh _ j).2 (hs j c hc)
  | cleared _ hcl =>
    rw [hcl] at hc
    cases hc

theorem Move.claimLaw {s t : State} (h : Move s t) (hd : s.DetachedLaw) (hs : s.ClaimLaw) : t.ClaimLaw := by
  have hkept := h.claimsHeld hs.claimsHeld
  have hclaimed : ∀ i k, s.Held i k → ∃ c ∈ (s.agent k).claims, c.source = i := fun i k => (hs.1 i k).1
  have hnodup := hs.2
  refine ⟨fun i j => ⟨fun (hx : t.Held i j) => ?_, fun ⟨c, hc, hci⟩ => hci ▸ hkept j c hc⟩, fun j => ?_⟩
  · cases h.holdings with
    | same h =>
      obtain ⟨hh, hcl⟩ := h
      rw [hcl]
      exact hclaimed i j ((hh i j).1 hx)
    | granted k l a ha hp hh hcl =>
      rw [hh] at hx
      rw [hcl]
      split at hx
      · rename_i hli
        rw [if_pos hx]
        exact ⟨_, List.mem_append_right _ (List.mem_singleton_self _), hli⟩
      · obtain ⟨c, hc, hci⟩ := hclaimed i j hx
        split
        · exact ⟨c, List.mem_append_left _ hc, hci⟩
        · exact ⟨c, hc, hci⟩
    | released k l hki h =>
      obtain ⟨hh, hcl⟩ := h
      obtain ⟨hx, hne⟩ := (hh i j).1 hx
      obtain ⟨c, hc, hci⟩ := hclaimed i j hx
      rw [hcl]
      split
      · exact ⟨c, List.mem_filter.2 ⟨hc, decide_eq_true fun e => hne (e.symm.trans hci)⟩, hci⟩
      · exact ⟨c, hc, hci⟩
    | ended k hh hcl =>
      obtain ⟨hx, hne⟩ := (hh i j).1 hx
      obtain ⟨c, hc, hci⟩ := hclaimed i j hx
      rw [hcl]
      split
      · rename_i hkj
        subst hkj
        exact absurd hci (hne c hc)
      · exact ⟨c, hc, hci⟩
    | begun k hdet hh hcl =>
      obtain ⟨c, hc, hci⟩ := hclaimed i j ((hh i j).1 hx)
      rw [hcl]
      split
      · rename_i hkj
        subst hkj
        rw [(hd k hdet).1] at hc
        cases hc
      · exact ⟨c, hc, hci⟩
    | cleared hh _ => exact absurd hx (hh i j)
  · cases h.holdings with
    | same h =>
      obtain ⟨hh, hcl⟩ := h
      rw [hcl]
      exact hnodup j
    | granted k l a ha hp _ hcl =>
      rw [hcl]
      split
      · rw [List.map_append, List.map_singleton]
        refine (hnodup j).append (List.nodup_singleton _) (List.disjoint_singleton.2 fun hx => ?_)
        obtain ⟨c, hc, hci⟩ := List.mem_map.1 hx
        have hheld := hs.claimsHeld j c hc
        rw [hci] at hheld
        exact State.not_held_of_pending ha hp j hheld
      · exact hnodup j
    | released k l _ h =>
      obtain ⟨hh, hcl⟩ := h
      rw [hcl]
      split
      · exact (hnodup j).sublist (List.filter_sublist.map _)
      · exact hnodup j
    | ended k _ hcl =>
      rw [hcl]
      split
      · exact List.nodup_nil
      · exact hnodup j
    | begun k _ _ hcl =>
      rw [hcl]
      split
      · exact List.nodup_nil
      · exact hnodup j
    | cleared _ hcl =>
      rw [hcl]
      exact List.nodup_nil

/-- Settles O55: every move keeps the claim law beside the law of detached agents. -/
theorem claimsKept : Obligations.ClaimsKept :=
  keptByStep_of_moves (fun _ h => h) fun _ _ h hd hs => ⟨h.detachedLaw hd, h.claimLaw hd hs⟩

/-! ## R22, R40 -/

/-- Where a claim comes from: it stood before, or this move grants it. -/
theorem Move.claim_origin {s t : State} (h : Move s t) {k : AgentId} {c : Claim} (hc : c ∈ (t.agent k).claims) :
    c ∈ (s.agent k).claims ∨ ∃ a, s.source c.source = some a ∧ a.status = .pending ∧ c.consumed = a.consumed := by
  cases h.holdings with
  | same h =>
    obtain ⟨hh, hcl⟩ := h
    rw [hcl] at hc
    exact .inl hc
  | granted j l a ha hp _ hcl =>
    rw [hcl] at hc
    split at hc
    · rcases List.mem_append.1 hc with hc | hc
      · exact .inl hc
      · obtain rfl := List.mem_singleton.1 hc
        exact .inr ⟨a, ha, hp, rfl⟩
    · exact .inl hc
  | released j l _ h =>
    obtain ⟨hh, hcl⟩ := h
    rw [hcl] at hc
    split at hc
    · exact .inl (List.mem_filter.1 hc).1
    · exact .inl hc
  | ended j _ hcl =>
    rw [hcl] at hc
    split at hc
    · cases hc
    · exact .inl hc
  | begun j _ _ hcl =>
    rw [hcl] at hc
    split at hc
    · cases hc
    · exact .inl hc
  | cleared _ hcl =>
    rw [hcl] at hc
    cases hc

theorem Move.reasonLaw {s t : State} (h : Move s t) (hp : s.PendingLaw) (hc : s.ClaimsHeld) (hs : s.ReasonLaw) :
    t.ReasonLaw := by
  obtain ⟨hreasons, hfit⟩ := hs
  refine ⟨fun i a ha => ?_, fun k c hct a ha => ?_⟩
  · change a.ClassReasons
    rcases h.origin ha with ⟨b, hb, hch⟩ | ⟨g, r, -, -, -, -, rfl⟩ | ⟨g, b, hb, -, -, -, -, hbusy, rfl⟩
    · exact hch.classReasons (fun k c hc hi => hfit k c hc b (hi ▸ hb)) (hreasons i b hb)
    · exact Source.classReasons_settle ⟨nofun, nofun⟩
    · exact Source.classReasons_update (hreasons i b hb) (hp i b hb) hbusy
  · change c.consumed.FitsClass a.config.cls
    -- the class of a source that a claim is on, or that is granted, does not change
    have hcls {b : Source} (hb : s.source c.source = some b) (hni : b.status ≠ .idle) :
        a.config.cls = b.config.cls := by
      rcases h.origin ha with ⟨b', hb', hch⟩ | ⟨g, r, hn, -⟩ | ⟨g, b', hb', -, -, -, -, hbusy, rfl⟩
      · obtain ⟨v, hv⟩ := hch.config
        rw [hv, Option.some.inj (hb.symm.trans hb')]
      · exact absurd (hn.symm.trans hb) (by simp)
      · obtain rfl := Option.some.inj (hb.symm.trans hb')
        rw [Source.update_config]
        exact not_not.1 fun hne => hni (hbusy hne)
    rcases h.claim_origin hct with hcs | ⟨b, hb, hpend, hcons⟩
    · obtain ⟨b, hb, hheld⟩ := hc k c hcs
      rw [hcls hb (by simp [hheld])]
      exact hfit k c hcs b hb
    · rw [hcls hb (by simp [hpend]), hcons]
      exact hreasons _ b hb

/-- Settles O53: every move keeps the law of the pending condition, and beside it and the claims' sources being HELD the
law of the reasons. -/
theorem pendingStatesKept : Obligations.PendingStatesKept :=
  ⟨keptByStep_of_move fun _ _ h => h.pendingLaw,
    keptByStep_of_moves (Q := fun s => s.PendingLaw ∧ s.ClaimsHeld) (fun _ h => ⟨h.1, h.2.claimsHeld⟩)
      fun _ _ h hq hs => ⟨⟨h.pendingLaw hq.1, h.claimsHeld hq.2⟩, h.reasonLaw hq.1 hq.2 hs⟩⟩

end Sys2Proof.Machine
end

section
/-! PROOFS. The law of the alert flags (R59, R87, R89), kept by every move. -/

namespace Sys2Proof.Machine

open Sys2Proof

/-- An agent has been told its attention rank, or its alert flag says that it has not (R59, R89). -/
def State.Told (s : State) (k : AgentId) : Prop :=
  (s.agent k).attached = true → (s.agent k).alert = false → s.attention k = (s.agent k).lastSent

section
variable {s t : State}

/-- What the law of an agent's alert flag looks at. -/
structure Agent.SameAlert (a b : Agent) : Prop where
  session : b.session = a.session
  mask : b.mask = a.mask
  alert : b.alert = a.alert
  lastSent : b.lastSent = a.lastSent

theorem State.told_congr {k : AgentId} (h : s.SameWaiting t) (h' : t.SameWaiting s) (hp : t.promotion = s.promotion)
    (ha : (s.agent k).SameAlert (t.agent k)) (hs : s.Told k) : t.Told k := by
  intro hatt hal
  rw [State.attention_eq_of_sameWaiting h' h hp ha.mask ha.session, ha.lastSent]
  exact hs ((Agent.attached_congr ha.session).symm.trans hatt) (ha.alert ▸ hal)

theorem State.SameWaiting.of_sources (h : t.sources = s.sources) : s.SameWaiting t ∧ t.SameWaiting s := by
  have hi : ∀ i, t.source i = s.source i := fun i => by simp only [State.source, h]
  exact ⟨fun i a ha => ⟨a, (hi i).trans ha, rfl, rfl⟩, fun i a ha => ⟨a, (hi i).symm.trans ha, rfl, rfl⟩⟩

theorem State.told_of_sources {k : AgentId} (h : t.sources = s.sources) (hp : t.promotion = s.promotion)
    (ha : (s.agent k).SameAlert (t.agent k)) (hs : s.Told k) : t.Told k :=
  State.told_congr (State.SameWaiting.of_sources h).1 (State.SameWaiting.of_sources h).2 hp ha hs

/-- A change that keeps the configuration and state of every source keeps what attention looks at. -/
theorem State.SameWaiting.of_map {f : SourceIx → Source → Source} (h : ∀ i, t.source i = (s.source i).map (f i))
    (hf : ∀ i a, s.source i = some a → (f i a).config = a.config ∧ (f i a).status = a.status) :
    s.SameWaiting t ∧ t.SameWaiting s := by
  refine ⟨fun i a ha => ⟨f i a, by rw [h, ha]; rfl, hf i a ha⟩, fun i b hb => ?_⟩
  obtain ⟨a, ha, rfl⟩ := Option.map_eq_some_iff.1 ((h i).symm.trans hb)
  obtain ⟨hc, hst⟩ := hf i a ha
  exact ⟨a, ha, hc.symm, hst.symm⟩

end

theorem State.told_reEvaluateAll (s : State) (k : AgentId) : s.reEvaluateAll.Told k := s.reEvaluateAll_told k

theorem State.told_of_detached {s : State} {k : AgentId} (h : (s.agent k).attached = false) : s.Told k :=
  fun ha => absurd (h.symm.trans ha) (by simp)

/-- A re-evaluation of one agent tells that one, and keeps what the others have been told (R60). -/
theorem State.told_reEvaluate {s : State} {k : AgentId} (h : ∀ j, k ≠ j → s.Told j) (j : AgentId) :
    (s.reEvaluate k).Told j := by
  have hj := s.agent_reEvaluate k j
  by_cases hkj : k = j
  · subst hkj
    rw [if_pos rfl, ← State.agent_reEvaluateAll] at hj
    intro ha hal
    rw [hj] at ha hal
    rw [hj, State.attention_reEvaluate, ← State.attention_reEvaluateAll]
    exact s.reEvaluateAll_told k ha hal
  · rw [if_neg hkj] at hj
    exact State.told_of_sources (s := s) rfl rfl (hj ▸ ⟨rfl, rfl, rfl, rfl⟩) (h j hkj)

/-- An event that keeps configurations keeps the law: with the source's state unchanged attention is the same, and with
it changed every agent is re-evaluated (R23, R59). -/
theorem State.told_changeSource {s : State} {i : SourceIx} {f : Source → Source} (hf : ∀ a, (f a).config = a.config)
    {k : AgentId} (hs : s.Told k) : (s.changeSource i f).Told k := by
  cases h : s.source i with
  | none => rwa [State.changeSource_vacant f h]
  | some a =>
    rw [State.changeSource_loaded f h]
    split
    · rename_i hst
      obtain ⟨h1, h2⟩ := State.SameWaiting.of_map (s := s) (t := s.setSource i (some (f a)))
        (f := fun j b => if i = j then f b else b)
        (fun j => by
          rw [State.source_setSource]
          split
          · rename_i hij
            subst hij
            rw [h]
            rfl
          · simp)
        (fun j b hb => by
          split
          · rename_i hij
            subst hij
            obtain rfl := Option.some.inj (h.symm.trans hb)
            exact ⟨hf a, hst⟩
          · exact ⟨rfl, rfl⟩)
      exact State.told_congr h1 h2 rfl ⟨rfl, rfl, rfl, rfl⟩ hs
    · exact State.told_reEvaluateAll _ k

theorem State.told_modAgent {s : State} {k : AgentId} {f : Agent → Agent} (hf : (s.agent k).SameAlert (f (s.agent k)))
    {j : AgentId} (hs : s.Told j) : (s.modAgent k f).Told j := by
  refine State.told_of_sources (s := s) rfl rfl ?_ hs
  rw [State.agent_modAgent]
  split
  · rename_i h
    exact h ▸ hf
  · exact ⟨rfl, rfl, rfl, rfl⟩

theorem State.told_reclaim {s : State} {k : AgentId} {c : Claim} {j : AgentId} (hs : s.Told j) :
    (s.reclaim k c).Told j :=
  State.told_changeSource (fun a => a.reclaim_config _) (State.told_modAgent ⟨rfl, rfl, rfl, rfl⟩ hs)

theorem State.told_endSession {s : State} {k j : AgentId} (hs : s.Told j) : (s.endSession k).Told j := by
  have hr : (s.afterReclaims k).Told j :=
    State.afterReclaims_keeps (P := fun t => t.Told j) hs fun t c _ ht => State.told_reclaim ht
  have hag := s.agent_endSession k j
  by_cases hkj : k = j
  · rw [if_pos hkj] at hag
    exact State.told_of_detached (by rw [hag]; rfl)
  · rw [if_neg hkj] at hag
    exact State.told_of_sources (s := s.afterReclaims k) (State.sources_ext (s.source_endSession k))
      (by rw [State.endSession_promotion]
          exact (State.afterReclaims_keeps (P := fun t => t.promotion = s.promotion) rfl
            fun t c _ ht => (t.reclaim_promotion k c).trans ht).symm)
      (hag ▸ ⟨rfl, rfl, rfl, rfl⟩) hr

theorem Move.alertLaw {s t : State} (h : Move s t) (hs : s.AlertLaw) : t.AlertLaw := by
  intro j
  have hj : s.Told j := hs j
  change t.Told j
  cases h with
  | aside h =>
    have hag : t.agent j = s.agent j := by simp only [State.agent, h.agents]
    exact State.told_of_sources h.sources h.promotion (hag ▸ ⟨rfl, rfl, rfl, rfl⟩) hj
  | event i hf => exact State.told_changeSource hf.config hj
  | grant k i a _ _ _ _ =>
    unfold State.grant
    refine State.told_changeSource (f := Source.grant k) (fun _ => rfl)
      (State.told_modAgent (f := fun g => { g with claims := g.claims ++ [s.newClaim k i a] }) ⟨rfl, rfl, rfl, rfl⟩ ?_)
    refine State.told_of_sources (s := s) rfl rfl ?_ hj
    simp only [State.agent, Fin.getElem_fin, Vector.getElem_map]
    exact ⟨rfl, rfl, rfl, rfl⟩
  | complete k i _ =>
    exact State.told_changeSource (f := Source.complete) (fun _ => rfl)
      (State.told_modAgent (f := Agent.dropClaim i) ⟨rfl, rfl, rfl, rfl⟩ hj)
  | expire k c _ =>
    exact State.told_modAgent (f := fun a => { a.addMark c.source with reclaims := satSucc a.reclaims })
      ⟨rfl, rfl, rfl, rfl⟩ (State.told_reclaim hj)
  | endSession k => exact State.told_endSession hj
  | join k a _ =>
    refine State.told_reEvaluate (fun i hki => ?_) j
    refine State.told_of_sources (s := s) rfl rfl ?_ (hs i)
    rw [State.agent_setAgent, if_neg hki]
    exact ⟨rfl, rfl, rfl, rfl⟩
  | setMask k m =>
    refine State.told_reEvaluate (fun i hki => ?_) j
    refine State.told_of_sources (s := s) rfl rfl ?_ (hs i)
    rw [State.agent_modAgent, if_neg hki]
    exact ⟨rfl, rfl, rfl, rfl⟩
  | notices A hA =>
    refine State.told_of_sources (s := s) rfl rfl ?_ hj
    change (s.agent j).SameAlert A[j]
    rw [(hA j).rest]
    exact ⟨rfl, rfl, rfl, rfl⟩
  | served k =>
    have hag := s.agent_modAgent k j fun a => { a with alert := false, lastSent := s.attention k }
    by_cases hkj : k = j
    · subst hkj
      rw [if_pos rfl] at hag
      intro _ _
      have hmask := congrArg Agent.mask hag
      have hses := congrArg Agent.session hag
      have hat := State.attention_congr (s := s.modAgent k fun a => { a with alert := false, lastSent := s.attention k })
        (t := s) k rfl rfl hmask hses
      exact hat.trans (congrArg Agent.lastSent hag).symm
    · rw [if_neg hkj] at hag
      exact State.told_of_sources (s := s) rfl rfl (hag ▸ ⟨rfl, rfl, rfl, rfl⟩) hj
  | promote p i a _ _ _ _ => exact State.told_reEvaluateAll _ j
  | clearPromotion p => exact State.told_reEvaluateAll _ j
  | load i g r _ _ _ _ _ => exact State.told_reEvaluateAll _ j
  | update i g a _ _ _ _ _ _ _ => exact State.told_reEvaluateAll _ j
  | drop i a _ => exact State.told_reEvaluateAll _ j
  | setBlocked i b a ha =>
    unfold State.setBlocked
    dsimp only
    split
    · rename_i hb
      have he : s.setSource i (some { a with config := { a.config with blocked := b } }) = s.changeSource i id := by
        rw [State.changeSource_loaded _ ha, if_pos (show (id a).status = a.status from rfl), ← hb]
        rfl
      rw [he]
      exact State.told_changeSource (fun _ => rfl) hj
    · exact State.told_reEvaluateAll _ j
  | slotTakes m =>
    exact State.told_of_sources (by simp) (by simp) (by rw [State.slotTakes_agent]; exact ⟨rfl, rfl, rfl, rfl⟩) hj
  | desync n r _ _ _ =>
    obtain ⟨h1, h2⟩ := State.SameWaiting.of_map (s := s) (State.source_markUncertain (s.enqueue n) n true)
      fun i a _ => by split <;> exact ⟨rfl, rfl⟩
    exact State.told_congr h1 h2 rfl ⟨rfl, rfl, rfl, rfl⟩ hj
  | resync n r q _ _ =>
    obtain ⟨h1, h2⟩ := State.SameWaiting.of_map (State.source_markUncertain s n false)
      fun i a _ => by split <;> exact ⟨rfl, rfl⟩
    exact State.told_congr h1 h2 rfl ⟨rfl, rfl, rfl, rfl⟩ hj
  | fieldNodesDown =>
    obtain ⟨h1, h2⟩ := State.SameWaiting.of_map s.source_fieldNodesDown fun i a _ => by split <;> exact ⟨rfl, rfl⟩
    exact State.told_congr h1 h2 rfl ⟨rfl, rfl, rfl, rfl⟩ hj
  | warmReset => exact State.told_of_detached (by simp [State.agent, State.warmReset, Agent.afterReset, Agent.attached])
  | powerOnReset =>
    exact State.told_of_detached (by
      simp [State.agent, State.powerOnReset, State.reset, Agent.afterReset, Agent.attached])
  | record n _ => exact State.told_of_sources (s := s) rfl rfl ⟨rfl, rfl, rfl, rfl⟩ hj
  | attempt m e p _ => exact State.told_of_sources (s := s) rfl rfl ⟨rfl, rfl, rfl, rfl⟩ hj
  | phase m e p _ => exact State.told_of_sources (s := s) rfl rfl ⟨rfl, rfl, rfl, rfl⟩ hj
  | create n o _ => exact State.told_of_sources (s := s) rfl rfl ⟨rfl, rfl, rfl, rfl⟩ hj
  | dropNode n _ _ => exact State.told_of_sources (s := s) rfl rfl ⟨rfl, rfl, rfl, rfl⟩ hj
  | requeue n r _ _ _ => exact State.told_of_sources (s := s) rfl rfl ⟨rfl, rfl, rfl, rfl⟩ hj
  | lost m e _ => exact State.told_of_sources (s := s) rfl rfl ⟨rfl, rfl, rfl, rfl⟩ hj

/-- Settles O56: every move that may change an attention rank re-evaluates, and one that clears a flag has told the
rank. -/
theorem alertsKept : Obligations.AlertsKept := keptByStep_of_move fun _ _ h => h.alertLaw

end Sys2Proof.Machine
end

section
/-! PROOFS. The laws of the node table, the wait list and the resync slots (R92, R93, R99, R100). -/

namespace Sys2Proof.Machine

open Sys2Proof

/-! ## What a move does to node states, wait list and slots -/

/-- The state of a node, if it is present (R93). -/
def State.nodeState (s : State) (n : NodeId) : Option NodeState := (s.node n).map Node.state

/-- The node a resync slot holds (R100). -/
def State.slotNode (s : State) (j : SlotId) : Option NodeId := (s.slots[j]).map Slot.node

theorem State.nodeState_of_node {s : State} {n : NodeId} {r : Node} (h : s.node n = some r) :
    s.nodeState n = some r.state := by rw [State.nodeState, h, Option.map_some]

theorem State.slotNode_eq_some_iff (s : State) (j : SlotId) (n : NodeId) :
    s.slotNode j = some n ↔ ∃ e ∈ s.slots[j], e.node = n := by
  simp [State.slotNode]

/-- Node states, wait list and the slots' nodes are the same. -/
structure State.SameQueues (s t : State) : Prop where
  state : ∀ n, t.nodeState n = s.nodeState n
  waiting : t.waitList = s.waitList
  slot : ∀ j, t.slotNode j = s.slotNode j

theorem State.nodeState_congr {s t : State} (h : t.nodes = s.nodes) (n : NodeId) : t.nodeState n = s.nodeState n := by
  simp only [State.nodeState, State.node, h]

theorem State.slotNode_congr {s t : State} (h : t.slots = s.slots) (j : SlotId) : t.slotNode j = s.slotNode j := by
  simp only [State.slotNode, h]

theorem State.sameQueues_of_eq {s t : State} (hn : t.nodes = s.nodes) (hw : t.waitList = s.waitList)
    (hs : t.slots = s.slots) : s.SameQueues t := ⟨State.nodeState_congr hn, hw, State.slotNode_congr hs⟩

theorem State.nodeState_setNode (s : State) (n m : NodeId) (r : Option Node) :
    (s.setNode n r).nodeState m = if n = m then r.map Node.state else s.nodeState m := by
  rw [State.nodeState, State.node_setNode]
  split <;> rfl

/-- A change of a record gives its node a state that follows from the one it had. -/
theorem State.nodeState_modNode (s : State) (n m : NodeId) {f : Node → Node} {g : NodeState → NodeState}
    (h : ∀ r, (f r).state = g r.state) :
    (s.modNode n f).nodeState m = if n = m then (s.nodeState n).map g else s.nodeState m := by
  rw [State.modNode, State.nodeState_setNode]
  split
  · rw [State.nodeState, Option.map_map, Option.map_map]
    exact congrArg (fun k => (s.node n).map k) (funext fun r => h r)
  · rfl

theorem State.slotNode_set (s : State) (j m : SlotId) (o : Option Slot) :
    ({ s with slots := s.slots.set j o } : State).slotNode m = if j = m then o.map Slot.node else s.slotNode m := by
  simp only [State.slotNode, Fin.getElem_fin, Vector.getElem_set, Fin.ext_iff]
  split <;> rfl

/-- The slot keeps its node. -/
theorem State.slotNode_set_same {s : State} {j : SlotId} {e g : Slot} (h : s.slots[j] = some e) (hg : g.node = e.node)
    (m : SlotId) : ({ s with slots := s.slots.set j (some g) } : State).slotNode m = s.slotNode m := by
  rw [State.slotNode_set]
  split
  · rename_i hjm
    subst hjm
    rw [State.slotNode, h, Option.map_some, Option.map_some, hg]
  · rfl

theorem State.mem_fieldNodes (s : State) (n : NodeId) : n ∈ s.fieldNodes ↔ n ≠ 0 ∧ (s.node n).isSome = true := by
  simp [State.fieldNodes]

/-- Node `n` goes to WAITING at the tail of the wait list (R99). -/
structure State.Queued (s t : State) (n : NodeId) : Prop where
  field : s.nodeState n = none ∨ n ≠ 0
  notWaiting : s.nodeState n ≠ some .waiting
  notResyncing : s.nodeState n ≠ some .resyncing
  state : ∀ m, t.nodeState m = if n = m then some .waiting else s.nodeState m
  waiting : t.waitList = s.waitList ++ [n]
  slot : ∀ j, t.slotNode j = s.slotNode j

/-- Node `n` leaves wait list and slots, SYNCED or not present any more (R105, R110). -/
structure State.Unqueued (s t : State) (n : NodeId) (o : Option NodeState) : Prop where
  field : n ≠ 0
  left : o = none ∨ o = some .synced
  state : ∀ m, t.nodeState m = if n = m then o else s.nodeState m
  waiting : t.waitList = s.waitList.filter (fun m => decide (m ≠ n))
  slot : ∀ j, t.slotNode j = (s.slotNode j).filter fun m => decide (m ≠ n)

/-- Slot `j` takes the oldest node of the wait list (R100). -/
structure State.TakesOldest (s t : State) (j : SlotId) (n : NodeId) (rest : List NodeId) : Prop where
  oldest : s.waitList = n :: rest
  free : s.slotNode j = none
  state : ∀ m, t.nodeState m = if n = m then (s.nodeState n).map fun _ => .resyncing else s.nodeState m
  waiting : t.waitList = rest
  slot : ∀ m, t.slotNode m = if j = m then some n else s.slotNode m

/-- The node of slot `j` is LOST and the slot free (R104). -/
structure State.LosesNode (s t : State) (j : SlotId) (n : NodeId) : Prop where
  held : s.slotNode j = some n
  state : ∀ m, t.nodeState m = if n = m then (s.nodeState n).map fun _ => .lost else s.nodeState m
  waiting : t.waitList = s.waitList
  slot : ∀ m, t.slotNode m = if j = m then none else s.slotNode m

/-- Every field node waits, in ascending node id, and every slot is free (R112, R114). -/
structure State.AllQueued (s t : State) : Prop where
  zero : t.nodeState 0 = s.nodeState 0 ∨ t.nodeState 0 = (s.nodeState 0).map fun _ => .synced
  state : ∀ n, n ≠ 0 → t.nodeState n = (s.nodeState n).map fun _ => .waiting
  waiting : t.waitList = s.fieldNodes
  slot : ∀ j, t.slotNode j = none

/-- Node 0 alone is present, and nothing waits (R90). -/
structure State.NoFieldNodes (t : State) : Prop where
  state : ∀ n, t.nodeState n = if n = 0 then some .synced else none
  waiting : t.waitList = []
  slot : ∀ j, t.slotNode j = none

/-- What a move does to node states, wait list and slots: nothing; one node begins to wait, leaves list and slots, is
taken by a slot or found lost; or all begins anew. -/
inductive State.QueuesChange (s t : State) : Prop where
  | same (h : s.SameQueues t)
  | queued (n : NodeId) (h : s.Queued t n)
  | unqueued (n : NodeId) (o : Option NodeState) (h : s.Unqueued t n o)
  | taken (j : SlotId) (n : NodeId) (rest : List NodeId) (h : s.TakesOldest t j n rest)
  | lost (j : SlotId) (n : NodeId) (h : s.LosesNode t j n)
  | allQueued (h : s.AllQueued t)
  | cleared (h : t.NoFieldNodes)

theorem State.nodeState_enqueue {s : State} {n : NodeId} {r : Node} (hn : s.node n = some r) (m : NodeId) :
    (s.enqueue n).nodeState m = if n = m then some .waiting else s.nodeState m := by
  refine (State.nodeState_modNode s n m (f := fun r => { r with state := .waiting }) (g := fun _ => .waiting)
    fun _ => rfl).trans ?_
  rw [State.nodeState_of_node hn, Option.map_some]

/-- A change of a record other than its state. -/
theorem State.nodeState_modNode_of_same (s : State) (n m : NodeId) {f : Node → Node} (h : ∀ r, (f r).state = r.state) :
    (s.modNode n f).nodeState m = s.nodeState m := by
  rw [State.nodeState_modNode (g := id) s n m h]
  split
  · rename_i hnm
    rw [hnm, Option.map_id, id]
  · rfl

/-- The node that is released leaves its slot. -/
theorem State.slotNode_releaseNode (s : State) (n : NodeId) (j : SlotId) :
    (s.releaseNode n).slotNode j = (s.slotNode j).filter fun m => decide (m ≠ n) := by
  rw [State.slotNode, State.slot_releaseNode, State.slotNode]
  cases s.slots[j] with
  | none => rfl
  | some e => by_cases he : e.node = n <;> simp [Option.filter, he]

/-- A node that stands LOST or SYNCED goes to the wait list. -/
theorem State.queued_enqueue {s t : State} {n : NodeId} {r : Node} (h0 : n ≠ 0) (hn : s.node n = some r)
    (hr : r.state = .synced ∨ r.state = .lost) (hst : ∀ m, t.nodeState m = (s.enqueue n).nodeState m)
    (hwt : t.waitList = s.waitList ++ [n]) (hjt : ∀ j, t.slotNode j = s.slotNode j) : s.Queued t n where
  field := .inr h0
  notWaiting := by rcases hr with hr | hr <;> simp [State.nodeState_of_node hn, hr]
  notResyncing := by rcases hr with hr | hr <;> simp [State.nodeState_of_node hn, hr]
  state m := (hst m).trans (State.nodeState_enqueue hn m)
  waiting := hwt
  slot := hjt

theorem State.queued_create {s : State} {n : NodeId} (o : Option SourceIx) (hn : s.node n = none) :
    s.Queued ((s.setNode n (some (Node.created o))).enqueue n) n := by
  have hnone : s.nodeState n = none := by rw [State.nodeState, hn, Option.map_none]
  refine ⟨.inl hnone, by simp [hnone], by simp [hnone], fun m => ?_, rfl, fun _ => rfl⟩
  rw [State.nodeState_enqueue (State.node_setNode_same s n _), State.nodeState_setNode]
  split <;> rfl

theorem State.unqueued_dropNode {s : State} {n : NodeId} (h0 : n ≠ 0) :
    s.Unqueued ((s.releaseNode n).setNode n none) n none := by
  refine ⟨h0, .inl rfl, fun m => ?_, rfl, s.slotNode_releaseNode n⟩
  rw [State.nodeState_setNode]
  rfl

theorem State.unqueued_resync {s : State} {n : NodeId} {r : Node} (q : Byte) (h0 : n ≠ 0) (hn : s.node n = some r) :
    s.Unqueued (((s.markUncertain n false).modNode n fun x =>
      { x with expected := q, state := .synced, wasLost := false }).releaseNode n) n (some .synced) := by
  refine ⟨h0, .inr rfl, fun m => ?_, rfl, State.slotNode_releaseNode _ n⟩
  refine (State.nodeState_modNode (s.markUncertain n false) n m
    (f := fun x => { x with expected := q, state := .synced, wasLost := false }) (g := fun _ => .synced)
    fun _ => rfl).trans ?_
  have hst : (s.markUncertain n false).nodeState n = some r.state := State.nodeState_of_node (s := s) hn
  rw [hst, Option.map_some]
  rfl

theorem State.queues_slotTakes (s : State) (j : SlotId) : s.QueuesChange (s.slotTakes j) := by
  rcases s.slotTakes_cases j with ⟨ht, -⟩ | ⟨n, rest, hj, hw, ht⟩
  · rw [ht]
    exact .same ⟨fun _ => rfl, rfl, fun _ => rfl⟩
  · rw [ht]
    refine .taken j n rest ⟨hw, by rw [State.slotNode, hj, Option.map_none], fun m => ?_, rfl, fun m => ?_⟩
    · exact State.nodeState_modNode s n m (f := fun r => { r with state := .resyncing, attempts := 0 })
        (g := fun _ => .resyncing) fun _ => rfl
    · exact State.slotNode_set s j m _

theorem State.nodeState_fieldNodesDown (s : State) (n : NodeId) : s.fieldNodesDown.nodeState n =
    if n = 0 then s.nodeState n else (s.nodeState n).map fun _ => .waiting := by
  simp only [State.nodeState, State.node, State.fieldNodesDown, Fin.getElem_fin, Vector.getElem_ofFn, Fin.eta]
  split
  · rfl
  · rw [Option.map_map, Option.map_map]
    rfl

theorem State.nodeState_warmReset (s : State) (n : NodeId) : s.warmReset.nodeState n =
    (s.nodeState n).map fun _ => if n = 0 then .synced else .waiting := by
  simp only [State.nodeState, State.node, State.warmReset, Fin.getElem_fin, Vector.getElem_ofFn, Option.map_map]
  rfl

theorem State.allQueued_fieldNodesDown (s : State) : s.AllQueued s.fieldNodesDown where
  zero := .inl (s.nodeState_fieldNodesDown 0)
  state n hn := by rw [State.nodeState_fieldNodesDown, if_neg hn]
  waiting := rfl
  slot j := by simp [State.slotNode, State.fieldNodesDown]

theorem State.allQueued_warmReset (s : State) : s.AllQueued s.warmReset where
  zero := .inr (s.nodeState_warmReset 0)
  state n hn := by simp only [State.nodeState_warmReset, if_neg hn]
  waiting := rfl
  slot j := by simp [State.slotNode, State.warmReset]

theorem State.noFieldNodes_powerOnReset (s : State) : s.powerOnReset.NoFieldNodes := by
  refine ⟨fun n => ?_, rfl, fun j => by simp [State.slotNode, State.powerOnReset, State.reset]⟩
  simp only [State.nodeState, State.node, State.powerOnReset, State.reset, Fin.getElem_fin, Vector.getElem_set,
    Vector.getElem_replicate, Fin.ext_iff]
  split
  · rename_i h
    exact (if_pos h.symm).symm
  · rename_i h
    exact (if_neg (Ne.symm h)).symm

theorem Move.queues {s t : State} (h : Move s t) : s.QueuesChange t := by
  cases h with
  | aside h => exact .same (State.sameQueues_of_eq h.nodes h.waitList h.slots)
  | event i _ => exact .same (State.sameQueues_of_eq (by simp) (by simp) (by simp))
  | grant k i a _ _ _ _ => exact .same (State.sameQueues_of_eq (by simp) (by simp) (by simp))
  | complete k i _ => exact .same (State.sameQueues_of_eq (by simp) (by simp) (by simp))
  | expire k c _ => exact .same (State.sameQueues_of_eq (by simp) (by simp) (by simp))
  | endSession k => exact .same (State.sameQueues_of_eq (by simp) (by simp) (by simp))
  | drop i a _ => exact .same (State.sameQueues_of_eq (by simp) (by simp) (by simp))
  | setBlocked i b a _ => exact .same (State.sameQueues_of_eq (by simp) (by simp) (by simp))
  | record n hf => exact .same ⟨fun m => s.nodeState_modNode_of_same n m hf.state, rfl, fun _ => rfl⟩
  | attempt j e p he =>
    exact .same ⟨fun m => s.nodeState_modNode_of_same e.node m (f := fun r => { r with attempts := r.attempts + 1 })
      fun _ => rfl, rfl, State.slotNode_set_same he rfl⟩
  | phase j e p he => exact .same ⟨fun _ => rfl, rfl, State.slotNode_set_same he rfl⟩
  | create n o hn => exact .queued n (State.queued_create o hn)
  | dropNode n h0 _ => exact .unqueued n none (State.unqueued_dropNode h0)
  | slotTakes j => exact s.queues_slotTakes j
  | desync n r h0 hn hr =>
    exact .queued n (State.queued_enqueue h0 hn (.inl hr) (fun _ => rfl) rfl fun _ => rfl)
  | requeue n r h0 hn hr =>
    exact .queued n (State.queued_enqueue h0 hn (.inr hr) (fun _ => rfl) rfl fun _ => rfl)
  | resync n r q h0 hn => exact .unqueued n (some .synced) (State.unqueued_resync q h0 hn)
  | lost j e he =>
    refine .lost j e.node ⟨by rw [State.slotNode, he, Option.map_some], fun m => ?_, rfl, fun m => ?_⟩
    · exact State.nodeState_modNode s e.node m (f := fun x => { x with state := .lost, wasLost := true })
        (g := fun _ => .lost) fun _ => rfl
    · exact State.slotNode_set s j m none
  | fieldNodesDown => exact .allQueued s.allQueued_fieldNodesDown
  | warmReset => exact .allQueued s.allQueued_warmReset
  | powerOnReset => exact .cleared s.noFieldNodes_powerOnReset
  | _ => exact .same (State.sameQueues_of_eq rfl rfl rfl)

/-! ## R92 -/

/-- Node 0 is present with the record R92 fixes. -/
def State.NodeZeroRecord (s : State) : Prop :=
  ∃ r, s.node 0 = some r ∧ r.state = .synced ∧ r.expected = 0#8 ∧ r.attempts = 0 ∧ r.wasLost = false ∧ r.gaps = 0#16

theorem State.nodeZeroLaw_iff (s : State) : s.NodeZeroLaw ↔
    s.NodeZeroRecord ∧ (0 : NodeId) ∉ s.waitList ∧ ∀ j, s.slotNode j ≠ some 0 := by
  unfold State.NodeZeroLaw
  refine and_congr Iff.rfl (and_congr Iff.rfl (forall_congr' fun j => ?_))
  rw [Ne, State.slotNode_eq_some_iff]
  simp

theorem State.NodeZeroRecord.nodeState {s : State} (h : s.NodeZeroRecord) : s.nodeState 0 = some .synced := by
  obtain ⟨r, hr, hst, -⟩ := h
  rw [State.nodeState_of_node hr, hst]

theorem State.NodeZeroRecord.congr {s t : State} (h : t.node 0 = s.node 0) (hs : s.NodeZeroRecord) : t.NodeZeroRecord := by
  unfold State.NodeZeroRecord
  rwa [h]

theorem State.NodeZeroRecord.modNode {s : State} {n : NodeId} {f : Node → Node} (h : n ≠ 0) (hs : s.NodeZeroRecord) :
    (s.modNode n f).NodeZeroRecord := hs.congr (by rw [State.node_modNode, if_neg h])

/-- Of node 0 a move changes only what R92 leaves open, when no queue holds it. -/
theorem Move.nodeZeroRecord {s t : State} (h : Move s t) (hs : s.NodeZeroLaw) : t.NodeZeroRecord := by
  obtain ⟨h0, hw, hj⟩ := s.nodeZeroLaw_iff.1 hs
  have slot0 {j : SlotId} {e : Slot} (he : s.slots[j] = some e) : e.node ≠ 0 := fun hz =>
    hj j ((s.slotNode_eq_some_iff j 0).2 ⟨e, he, hz⟩)
  cases h with
  | aside h => exact h0.congr (by simp only [State.node, h.nodes])
  | event i _ => exact h0.congr (by simp)
  | grant k i a _ _ _ _ => exact h0.congr (by simp [State.node])
  | complete k i _ => exact h0.congr (by simp)
  | expire k c _ => exact h0.congr (by simp [State.node])
  | endSession k => exact h0.congr (by simp [State.node])
  | drop i a _ => exact h0.congr (by simp [State.node])
  | setBlocked i b a _ => exact h0.congr (by simp [State.node])
  | record n hf =>
    by_cases hn : n = 0
    · subst hn
      obtain ⟨r, hr, hst, he, ha, hl, hg⟩ := h0
      obtain ⟨he', ha', hl', hg'⟩ := hf.zero rfl r
      refine ⟨_, by rw [State.node_modNode_same, hr, Option.map_some], (hf.state r).trans hst, he'.trans he,
        ha'.trans ha, hl'.trans hl, hg' hg⟩
    · exact h0.modNode hn
  | attempt j e p he => exact h0.modNode (s := s) (slot0 he)
  | create n o hn =>
    have hne : n ≠ 0 := fun hz => by
      obtain ⟨r, hr, -⟩ := h0
      rw [hz, hr] at hn
      cases hn
    exact h0.congr (by rw [State.node_enqueue, if_neg hne, State.node_setNode, if_neg hne])
  | dropNode n hn _ => exact h0.congr (by rw [State.node_setNode, if_neg hn]; rfl)
  | slotTakes j =>
    rcases s.slotTakes_cases j with ⟨ht, -⟩ | ⟨n, rest, -, hwl, ht⟩
    · rwa [ht]
    · rw [ht]
      exact h0.modNode (s := s) fun hz => hw (by rw [hwl, hz]; exact List.mem_cons_self)
  | desync n r hn _ _ => exact h0.modNode (s := s) hn
  | requeue n r hn _ _ => exact h0.modNode (s := s) hn
  | resync n r q hn _ => exact h0.modNode (s := s) hn
  | lost j e he => exact h0.modNode (s := s) (slot0 he)
  | fieldNodesDown => exact h0.congr (by simp [State.node, State.fieldNodesDown])
  | warmReset =>
    obtain ⟨r, hr, -⟩ := h0
    refine ⟨Node.warm 0 r, ?_, rfl, rfl, rfl, rfl, rfl⟩
    change (s.warmReset.nodes[(0 : NodeId)] : Option Node) = _
    have hr' : (s.nodes[(0 : NodeId)] : Option Node) = some r := hr
    simp only [State.warmReset, Fin.getElem_fin, Vector.getElem_ofFn] at hr' ⊢
    exact (congrArg (Option.map (Node.warm 0)) hr').trans rfl
  | powerOnReset =>
    exact ⟨Node.contactBlock, by simp [State.node, State.powerOnReset, State.reset], rfl, rfl, rfl, rfl, rfl⟩
  | _ => exact h0

theorem Move.nodeZeroLaw {s t : State} (h : Move s t) (hs : s.NodeZeroLaw) : t.NodeZeroLaw := by
  refine t.nodeZeroLaw_iff.2 ⟨h.nodeZeroRecord hs, ?_⟩
  obtain ⟨h0, hw, hj⟩ := s.nodeZeroLaw_iff.1 hs
  cases h.queues with
  | same h =>
    obtain ⟨hst, hwt, hjt⟩ := h
    exact ⟨hwt ▸ hw, fun j => hjt j ▸ hj j⟩
  | queued n h =>
    obtain ⟨hn, hnw, hnr, hst, hwt, hjt⟩ := h
    refine ⟨fun hx => ?_, fun j => hjt j ▸ hj j⟩
    rw [hwt] at hx
    rcases List.mem_append.1 hx with hx | hx
    · exact hw hx
    · obtain rfl := List.mem_singleton.1 hx
      rcases hn with hn | hn
      · rw [h0.nodeState] at hn
        cases hn
      · exact hn rfl
  | unqueued n o h =>
    obtain ⟨hn, ho, hst, hwt, hjt⟩ := h
    refine ⟨fun hx => hw ?_, fun j hx => hj j ?_⟩
    · rw [hwt] at hx
      exact (List.mem_filter.1 hx).1
    · rw [hjt] at hx
      exact (Option.filter_eq_some_iff.1 hx).1
  | taken j n rest h =>
    obtain ⟨hwl, hjn, hst, hwt, hjt⟩ := h
    refine ⟨fun hx => hw (hwl ▸ List.mem_cons_of_mem _ (hwt ▸ hx)), fun m hx => ?_⟩
    rw [hjt] at hx
    split at hx
    · exact hw (by rw [hwl, Option.some.inj hx]; exact List.mem_cons_self)
    · exact hj m hx
  | lost j n h =>
    obtain ⟨hjn, hst, hwt, hjt⟩ := h
    refine ⟨hwt ▸ hw, fun m hx => ?_⟩
    rw [hjt] at hx
    split at hx
    · cases hx
    · exact hj m hx
  | allQueued h =>
    obtain ⟨hst0, hst, hwt, hjt⟩ := h
    refine ⟨fun hx => ?_, fun j => by simp [hjt j]⟩
    rw [hwt, State.mem_fieldNodes] at hx
    exact hx.1 rfl
  | cleared h =>
    obtain ⟨hst, hwt, hjt⟩ := h
    exact ⟨by simp [hwt], fun j => by simp [hjt j]⟩

/-! ## R99, R100 -/

theorem State.waitLaw_iff (s : State) : s.WaitLaw ↔
    s.waitList.Nodup ∧ (∀ n, n ∈ s.waitList ↔ s.nodeState n = some .waiting) ∧
    (∀ n, (∃ j, s.slotNode j = some n) ↔ s.nodeState n = some .resyncing) ∧
    ∀ j m n, s.slotNode j = some n → s.slotNode m = some n → j = m := by
  simp only [State.slotNode_eq_some_iff]
  refine and_congr Iff.rfl (and_congr Iff.rfl (and_congr Iff.rfl ⟨fun h j m n => ?_, fun h j e he m g hg hn => ?_⟩))
  · rintro ⟨e, he, hen⟩ ⟨g, hg, hgn⟩
    exact h j e he m g hg (hen.trans hgn.symm)
  · exact h j m g.node ⟨e, he, hn⟩ ⟨g, hg, rfl⟩

section
variable {s t : State}

/-- The node that begins to wait was in no slot and not on the list. -/
theorem State.WaitLaw.queued {n : NodeId} (hs : s.WaitLaw) (h : s.Queued t n) :
    t.WaitLaw := by
  obtain ⟨hnd, hw, hj, hu⟩ := s.waitLaw_iff.1 hs
  obtain ⟨hn, hnw, hnr, hst, hwt, hjt⟩ := h
  refine t.waitLaw_iff.2 ?_
  have hnotin : n ∉ s.waitList := fun hx => hnw ((hw n).1 hx)
  simp only [hwt, hjt]
  refine ⟨hnd.append (List.nodup_singleton n) (List.disjoint_singleton.2 hnotin), fun m => ?_, fun m => ?_, hu⟩
  · rw [hst, List.mem_append, List.mem_singleton]
    split
    · rename_i hnm
      exact iff_of_true (.inr hnm.symm) rfl
    · rename_i hnm
      rw [hw]
      exact ⟨fun hx => hx.elim id fun e => absurd e.symm hnm, .inl⟩
  · rw [hst]
    split
    · rename_i hnm
      exact iff_of_false (fun hx => hnr (hnm ▸ (hj m).1 hx)) (by simp)
    · exact hj m

theorem State.WaitLaw.unqueued {n : NodeId} {o : Option NodeState} (hs : s.WaitLaw) (h : s.Unqueued t n o) :
    t.WaitLaw := by
  obtain ⟨hnd, hw, hj, hu⟩ := s.waitLaw_iff.1 hs
  obtain ⟨hn, ho, hst, hwt, hjt⟩ := h
  refine t.waitLaw_iff.2 ?_
  refine ⟨hwt ▸ hnd.filter _, fun m => ?_, fun m => ?_, fun i m l hi hm => ?_⟩
  · rw [hst, hwt, List.mem_filter, decide_eq_true_eq]
    split
    · rename_i hnm
      refine iff_of_false (fun hx => hx.2 hnm.symm) ?_
      rcases ho with rfl | rfl <;> simp
    · rename_i hnm
      rw [hw]
      exact ⟨And.left, fun hx => ⟨hx, fun e => hnm e.symm⟩⟩
  · simp only [hst, hjt, Option.filter_eq_some_iff, decide_eq_true_eq]
    split
    · rename_i hnm
      refine iff_of_false (fun ⟨_, _, hx⟩ => hx hnm.symm) ?_
      rcases ho with rfl | rfl <;> simp
    · rename_i hnm
      rw [← hj m]
      exact ⟨fun ⟨j, hx, _⟩ => ⟨j, hx⟩, fun ⟨j, hx⟩ => ⟨j, hx, fun e => hnm e.symm⟩⟩
  · rw [hjt] at hi hm
    exact hu i m l (Option.filter_eq_some_iff.1 hi).1 (Option.filter_eq_some_iff.1 hm).1

/-- The node that a slot takes waited, and so was in no slot. -/
theorem State.WaitLaw.taken {j : SlotId} {n : NodeId} {rest : List NodeId} (hs : s.WaitLaw) (h : s.TakesOldest t j n rest) :
    t.WaitLaw := by
  obtain ⟨hnd, hw, hj, hu⟩ := s.waitLaw_iff.1 hs
  obtain ⟨hwl, hjn, hst, hwt, hjt⟩ := h
  refine t.waitLaw_iff.2 ?_
  have hn : s.nodeState n = some .waiting := (hw n).1 (hwl ▸ List.mem_cons_self)
  rw [hwl] at hnd
  obtain ⟨hnotin, hndr⟩ := List.nodup_cons.1 hnd
  refine ⟨hwt ▸ hndr, fun m => ?_, fun m => ?_, fun i m l hi hm => ?_⟩
  · rw [hst, hwt, hn, Option.map_some]
    split
    · rename_i hnm
      exact iff_of_false (hnm ▸ hnotin) (by simp)
    · rename_i hnm
      rw [← hw m, hwl, List.mem_cons]
      exact ⟨.inr, fun hx => hx.resolve_left fun e => hnm e.symm⟩
  · simp only [hst, hjt, hn, Option.map_some]
    split
    · rename_i hnm
      exact iff_of_true ⟨j, by rw [if_pos rfl, hnm]⟩ rfl
    · rename_i hnm
      rw [← hj m]
      constructor
      · rintro ⟨i, hi⟩
        split at hi
        · exact absurd (Option.some.inj hi) hnm
        · exact ⟨i, hi⟩
      · rintro ⟨i, hi⟩
        refine ⟨i, ?_⟩
        rw [if_neg fun e => ?_]
        · exact hi
        · rw [← e, hjn] at hi
          cases hi
  · rw [hjt] at hi hm
    have hnfree : ∀ i, s.slotNode i ≠ some n := fun i hi => by
      have hr := (hj n).1 ⟨i, hi⟩
      rw [hn] at hr
      cases hr
    split at hi
    · rename_i hji
      split at hm
      · rename_i hjm
        rw [← hji, ← hjm]
      · exact absurd (hi ▸ hm) (hnfree m)
    · split at hm
      · exact absurd (hm ▸ hi) (hnfree i)
      · exact hu i m l hi hm

/-- The node found lost was RESYNCING, and so not on the list. -/
theorem State.WaitLaw.lost {j : SlotId} {n : NodeId} (hs : s.WaitLaw) (h : s.LosesNode t j n) :
    t.WaitLaw := by
  obtain ⟨hnd, hw, hj, hu⟩ := s.waitLaw_iff.1 hs
  obtain ⟨hjn, hst, hwt, hjt⟩ := h
  refine t.waitLaw_iff.2 ?_
  have hn : s.nodeState n = some .resyncing := (hj n).1 ⟨j, hjn⟩
  refine ⟨hwt ▸ hnd, fun m => ?_, fun m => ?_, fun i m l hi hm => ?_⟩
  · rw [hst, hwt, hn, Option.map_some]
    split
    · rename_i hnm
      rw [← hnm, hw, hn]
      simp
    · exact hw m
  · simp only [hst, hjt, hn, Option.map_some]
    split
    · rename_i hnm
      refine iff_of_false ?_ (by simp)
      rintro ⟨i, hi⟩
      split at hi
      · cases hi
      · rename_i hji
        exact hji (hu j i n hjn (hnm ▸ hi))
    · rename_i hnm
      rw [← hj m]
      constructor
      · rintro ⟨i, hi⟩
        split at hi
        · cases hi
        · exact ⟨i, hi⟩
      · rintro ⟨i, hi⟩
        refine ⟨i, ?_⟩
        rw [if_neg fun e => ?_]
        · exact hi
        · rw [← e, hjn] at hi
          exact hnm (Option.some.inj hi)
  · rw [hjt] at hi hm
    split at hi
    · cases hi
    · split at hm
      · cases hm
      · exact hu i m l hi hm

theorem State.AllQueued.waitLaw (hz : s.NodeZeroLaw) (h : s.AllQueued t) :
    t.WaitLaw := by
  obtain ⟨hst0, hst, hwt, hjt⟩ := h
  refine t.waitLaw_iff.2 ?_
  have h0 : t.nodeState 0 = some .synced := by
    have hz0 := ((s.nodeZeroLaw_iff.1 hz).1).nodeState
    rcases hst0 with hst0 | hst0 <;> rw [hst0, hz0]
    rfl
  have hstate : ∀ n, t.nodeState n = if n = 0 then some .synced else (s.nodeState n).map fun _ => .waiting := fun n => by
    split
    · rename_i hn
      rw [hn, h0]
    · rename_i hn
      exact hst n hn
  simp only [hjt]
  refine ⟨hwt ▸ (List.nodup_finRange 64).filter _, fun n => ?_, fun n => ?_, nofun⟩
  · rw [hstate, hwt, State.mem_fieldNodes]
    split
    · rename_i hn
      exact iff_of_false (fun hx => hx.1 hn) (by simp)
    · rename_i hn
      cases hr : s.node n <;> simp [hn, hr, State.nodeState]
  · rw [hstate]
    refine iff_of_false (fun ⟨_, hx⟩ => by cases hx) ?_
    split
    · simp
    · simp

theorem State.NoFieldNodes.waitLaw (h : t.NoFieldNodes) :
    t.WaitLaw := by
  obtain ⟨hst, hwt, hjt⟩ := h
  refine t.waitLaw_iff.2 ?_
  simp only [hjt]
  refine ⟨by simp [hwt], fun n => ?_, fun n => ?_, nofun⟩
  · rw [hst, hwt]
    split <;> simp
  · rw [hst]
    split <;> simp

end

theorem Move.waitLaw {s t : State} (h : Move s t) (hz : s.NodeZeroLaw) (hs : s.WaitLaw) : t.WaitLaw := by
  cases h.queues with
  | same h =>
    obtain ⟨hst, hwt, hjt⟩ := h
    refine t.waitLaw_iff.2 ?_
    simp only [hst, hwt, hjt]
    exact s.waitLaw_iff.1 hs
  | queued n h => exact hs.queued h
  | unqueued n o h => exact hs.unqueued h
  | taken j n rest h => exact hs.taken h
  | lost j n h => exact hs.lost h
  | allQueued h => exact h.waitLaw hz
  | cleared h => exact h.waitLaw

/-! ## R93 -/

/-- A node on the wait list or in a slot is not SYNCED. -/
def State.QueuedUnsynced (s : State) : Prop :=
  ∀ n, s.nodeState n = some .synced → n ∉ s.waitList ∧ ∀ j, s.slotNode j ≠ some n

theorem State.WaitLaw.queuedUnsynced {s : State} (h : s.WaitLaw) : s.QueuedUnsynced := by
  obtain ⟨-, hw, hj, -⟩ := s.waitLaw_iff.1 h
  intro n hn
  refine ⟨fun hx => ?_, fun j hx => ?_⟩
  · rw [(hw n).1 hx] at hn
    cases hn
  · rw [(hj n).1 ⟨j, hx⟩] at hn
    cases hn

theorem Move.queuedUnsynced {s t : State} (h : Move s t) (hs : s.QueuedUnsynced) : t.QueuedUnsynced := by
  intro m hm
  cases h.queues with
  | same h =>
    obtain ⟨hst, hwt, hjt⟩ := h
    rw [hst] at hm
    rw [hwt]
    exact ⟨(hs m hm).1, fun j => hjt j ▸ (hs m hm).2 j⟩
  | queued n h =>
    obtain ⟨hn, hnw, hnr, hst, hwt, hjt⟩ := h
    rw [hst] at hm
    split at hm
    · cases hm
    · rename_i hnm
      refine ⟨fun hx => ?_, fun j => hjt j ▸ (hs m hm).2 j⟩
      rw [hwt] at hx
      rcases List.mem_append.1 hx with hx | hx
      · exact (hs m hm).1 hx
      · exact hnm (List.mem_singleton.1 hx).symm
  | unqueued n o h =>
    obtain ⟨hn, ho, hst, hwt, hjt⟩ := h
    rw [hst] at hm
    refine ⟨fun hx => ?_, fun j hx => ?_⟩
    · rw [hwt] at hx
      obtain ⟨hx, hne⟩ := List.mem_filter.1 hx
      rw [if_neg fun e => of_decide_eq_true hne e.symm] at hm
      exact (hs m hm).1 hx
    · rw [hjt] at hx
      obtain ⟨hx, hne⟩ := Option.filter_eq_some_iff.1 hx
      rw [if_neg fun e => of_decide_eq_true hne e.symm] at hm
      exact (hs m hm).2 j hx
  | taken j n rest h =>
    obtain ⟨hwl, hjn, hst, hwt, hjt⟩ := h
    rw [hst] at hm
    split at hm
    · obtain ⟨x, -, hx⟩ := Option.map_eq_some_iff.1 hm
      cases hx
    · rename_i hnm
      refine ⟨fun hx => (hs m hm).1 (hwl ▸ List.mem_cons_of_mem _ (hwt ▸ hx)), fun i hx => ?_⟩
      rw [hjt] at hx
      split at hx
      · exact hnm (Option.some.inj hx)
      · exact (hs m hm).2 i hx
  | lost j n h =>
    obtain ⟨hjn, hst, hwt, hjt⟩ := h
    rw [hst] at hm
    split at hm
    · obtain ⟨x, -, hx⟩ := Option.map_eq_some_iff.1 hm
      cases hx
    · refine ⟨hwt ▸ (hs m hm).1, fun i hx => ?_⟩
      rw [hjt] at hx
      split at hx
      · cases hx
      · exact (hs m hm).2 i hx
  | allQueued h =>
    obtain ⟨hst0, hst, hwt, hjt⟩ := h
    refine ⟨fun hx => ?_, fun j => by simp [hjt j]⟩
    rw [hwt, State.mem_fieldNodes] at hx
    rw [hst m hx.1] at hm
    obtain ⟨x, -, hx⟩ := Option.map_eq_some_iff.1 hm
    cases hx
  | cleared h =>
    obtain ⟨hst, hwt, hjt⟩ := h
    exact ⟨by simp [hwt], fun j => by simp [hjt j]⟩

/-- The node and the uncertain flag of a loaded source. -/
def State.mark (s : State) (i : SourceIx) : Option (NodeId × Bool) :=
  (s.source i).map fun a => (a.config.node, a.uncertain)

theorem State.uncertainLaw_iff (s : State) : s.UncertainLaw ↔ ∀ i n u, s.mark i = some (n, u) → ∀ x,
    s.nodeState n = some x → (u = true ↔ x ≠ .synced) := by
  constructor
  · intro h i n u hm x hx
    obtain ⟨a, ha, he⟩ := Option.map_eq_some_iff.1 hm
    obtain ⟨rfl, rfl⟩ := Prod.mk.inj he
    obtain ⟨r, hr, rfl⟩ := Option.map_eq_some_iff.1 hx
    exact h i a ha r hr
  · intro h i a ha r hr
    have ha' : s.source i = some a := ha
    exact h i _ _ (by rw [State.mark, ha', Option.map_some]) r.state (State.nodeState_of_node hr)

theorem State.mark_congr {s t : State} (h : t.sources = s.sources) (i : SourceIx) : t.mark i = s.mark i := by
  simp only [State.mark, State.source, h]

theorem State.mark_of_map {s t : State} {i : SourceIx} {f : Source → Source} (h : t.source i = (s.source i).map f)
    (hf : ∀ a, s.source i = some a → (f a).config.node = a.config.node ∧ (f a).uncertain = a.uncertain) :
    t.mark i = s.mark i := by
  rw [State.mark, h, State.mark, Option.map_map]
  cases hs : s.source i with
  | none => rfl
  | some a =>
    obtain ⟨hn, hu⟩ := hf a hs
    simp [hn, hu]

theorem State.mark_changeSource (s : State) (j : SourceIx) {f : Source → Source}
    (hf : ∀ a, (f a).config.node = a.config.node ∧ (f a).uncertain = a.uncertain) (i : SourceIx) :
    (s.changeSource j f).mark i = s.mark i := by
  by_cases hji : j = i
  · subst hji
    exact State.mark_of_map (by rw [State.source_changeSource, if_pos rfl]) fun a _ => hf a
  · rw [State.mark, State.source_changeSource, if_neg hji, State.mark]

theorem State.mark_reclaim (s : State) (k : AgentId) (c : Claim) (i : SourceIx) : (s.reclaim k c).mark i = s.mark i :=
  (State.mark_changeSource _ c.source (fun a => ⟨by simp, by simp⟩) i).trans (State.mark_congr rfl i)

theorem State.mark_setSource (s : State) (j i : SourceIx) (o : Option Source) :
    (s.setSource j o).mark i = if j = i then o.map fun a => (a.config.node, a.uncertain) else s.mark i := by
  rw [State.mark, State.source_setSource]
  split <;> rfl

/-- The law is kept where marks stay or go, and the nodes of marked sources stay SYNCED or not SYNCED. -/
theorem State.UncertainLaw.of_marks {s t : State} (hs : s.UncertainLaw) (hm : ∀ i p, t.mark i = some p → s.mark i = some p)
    (hst : ∀ i n u x, s.mark i = some (n, u) → t.nodeState n = some x →
      ∃ y, s.nodeState n = some y ∧ (x = .synced ↔ y = .synced)) : t.UncertainLaw := by
  refine t.uncertainLaw_iff.2 fun i n u hi x hx => ?_
  obtain ⟨y, hy, hxy⟩ := hst i n u x (hm i _ hi) hx
  rw [Ne, hxy]
  exact s.uncertainLaw_iff.1 hs i n u (hm i _ hi) y hy

/-- The same, where every mark and every node state stays. -/
theorem State.UncertainLaw.congr {s t : State} (hs : s.UncertainLaw) (hm : ∀ i, t.mark i = s.mark i)
    (hst : ∀ n, t.nodeState n = s.nodeState n) : t.UncertainLaw :=
  hs.of_marks (fun i _ h => hm i ▸ h) fun _ n _ x _ hx => ⟨x, hst n ▸ hx, Iff.rfl⟩

/-- The flag of one node's sources is written, and its state with it (R30, R93). -/
theorem State.UncertainLaw.of_node {s t : State} {n : NodeId} {b : Bool} {x : NodeState} (hs : s.UncertainLaw)
    (hm : ∀ i, t.mark i = (s.mark i).map fun p => if p.1 = n then (p.1, b) else p) (hb : b = true ↔ x ≠ .synced)
    (hst : ∀ m, t.nodeState m = if n = m then some x else s.nodeState m) : t.UncertainLaw := by
  refine t.uncertainLaw_iff.2 fun i m u hi y hy => ?_
  rw [hm] at hi
  obtain ⟨⟨m', u'⟩, hp, he⟩ := Option.map_eq_some_iff.1 hi
  dsimp only at he
  split at he
  · rename_i hn
    obtain ⟨rfl, rfl⟩ := Prod.mk.inj he
    rw [hst, if_pos hn.symm] at hy
    exact Option.some.inj hy ▸ hb
  · rename_i hn
    obtain ⟨rfl, rfl⟩ := Prod.mk.inj he
    rw [hst, if_neg fun e => hn e.symm] at hy
    exact s.uncertainLaw_iff.1 hs i _ _ hp y hy

theorem State.mark_markUncertain (s : State) (n : NodeId) (b : Bool) (i : SourceIx) :
    (s.markUncertain n b).mark i = (s.mark i).map fun p => if p.1 = n then (p.1, b) else p := by
  rw [State.mark, State.source_markUncertain, State.mark, Option.map_map, Option.map_map]
  cases s.source i with
  | none => rfl
  | some a => by_cases hn : a.config.node = n <;> simp [hn]

theorem State.mark_afterReclaims (s : State) (k : AgentId) (i : SourceIx) : (s.afterReclaims k).mark i = s.mark i :=
  State.afterReclaims_keeps (P := fun t => t.mark i = s.mark i) rfl fun t c _ ht => (t.mark_reclaim k c i).trans ht

theorem State.mark_endSession (s : State) (k : AgentId) (i : SourceIx) : (s.endSession k).mark i = s.mark i := by
  rw [← s.mark_afterReclaims k i, State.mark, State.source_endSession, State.mark]
  rfl

theorem Source.update_uncertain (g : SourceConfig) (a : Source) : (a.update g).uncertain = a.uncertain := by
  unfold Source.update
  split <;> simp

section
variable {s t : State}

/-- A node that was not SYNCED and is not SYNCED now leaves the law as it is. -/
theorem State.UncertainLaw.of_unsynced {n : NodeId} {x : NodeState} (hs : s.UncertainLaw) (hm : ∀ i, t.mark i = s.mark i)
    (hx : x ≠ .synced) (hn : s.nodeState n ≠ some .synced)
    (hst : ∀ m, t.nodeState m = if n = m then (s.nodeState n).map (fun _ => x) else s.nodeState m) : t.UncertainLaw := by
  refine hs.of_marks (fun i _ h => hm i ▸ h) fun _ m _ y _ hy => ?_
  rw [hst] at hy
  split at hy
  · rename_i hnm
    subst hnm
    obtain ⟨z, hz, rfl⟩ := Option.map_eq_some_iff.1 hy
    exact ⟨z, hz, iff_of_false hx fun e => hn (e ▸ hz)⟩
  · exact ⟨y, hy, Iff.rfl⟩

/-- A loaded source is uncertain exactly when its node is not SYNCED (R7). -/
theorem State.UncertainLaw.load (hs : s.UncertainLaw) {i : SourceIx} {g : SourceConfig} {r : Node}
    (hn : s.node g.node = some r) : (s.setSource i (some (s.newSource g r))).reEvaluateAll.UncertainLaw := by
  refine State.uncertainLaw_iff _ |>.2 fun j n u hj x hx => ?_
  have hm := (s.mark_setSource i j (some (s.newSource g r))).symm.trans hj
  split at hm
  · obtain ⟨rfl, rfl⟩ := Prod.mk.inj (Option.some.inj hm)
    have hx' : s.nodeState (s.newSource g r).config.node = some x := hx
    rw [State.newSource_config, State.nodeState_of_node hn] at hx'
    obtain rfl := Option.some.inj hx'
    rw [State.newSource, Source.settle_uncertain]
    exact decide_eq_true_iff
  · exact s.uncertainLaw_iff.1 hs j n u hm x hx

theorem State.UncertainLaw.update (hs : s.UncertainLaw) {i : SourceIx} {g : SourceConfig} {a : Source}
    (hi : s.source i = some a) (hn : a.config.node = g.node) :
    (s.setSource i (some (a.update g))).reEvaluateAll.UncertainLaw := by
  refine hs.congr (fun j => (s.mark_setSource i j _).trans ?_) fun _ => rfl
  split
  · rename_i hij
    rw [← hij, State.mark, hi, Option.map_some, Option.map_some, Source.update_config, Source.update_uncertain, hn]
  · rfl

theorem State.UncertainLaw.drop (hs : s.UncertainLaw) (i : SourceIx) (a : Source) :
    (((s.setSource i none).unpromote i).withdraw i a).reEvaluateAll.UncertainLaw := by
  have hnodes : ((((s.setSource i none).unpromote i).withdraw i a).reEvaluateAll).nodes = s.nodes := by simp
  refine hs.of_marks (fun j p hj => ?_) fun _ n _ x _ hx => ⟨x, (State.nodeState_congr hnodes n) ▸ hx, Iff.rfl⟩
  have hm : (s.setSource i none).mark j = some p := by
    rw [← hj, State.mark, State.mark, State.reEvaluateAll_source, State.withdraw_source, State.unpromote_source]
  rw [State.mark_setSource] at hm
  split at hm
  · cases hm
  · exact hm

theorem State.UncertainLaw.setBlocked (hs : s.UncertainLaw) {i : SourceIx} {a : Source} (hi : s.source i = some a) (b : Bool) :
    (s.setBlocked i b a).UncertainLaw := by
  refine hs.congr (fun j => ?_) (State.nodeState_congr (by simp))
  rw [State.mark, State.source_setBlocked, State.mark]
  split
  · rename_i hij
    rw [← hij, hi]
    rfl
  · rfl

/-- No source is keyed to a node that is created (R2). -/
theorem State.UncertainLaw.create (hs : s.UncertainLaw) (hk : s.KeyLaw) {n : NodeId} (o : Option SourceIx)
    (hn : s.node n = none) : ((s.setNode n (some (Node.created o))).enqueue n).UncertainLaw := by
  refine hs.of_marks (fun _ _ h => h) fun i m u x hi hx => ?_
  obtain ⟨a, ha, he⟩ := Option.map_eq_some_iff.1 hi
  obtain ⟨rfl, -⟩ := Prod.mk.inj he
  have hne : n ≠ a.config.node := fun hna => by
    have hp := hk.2 i a ha
    rw [← hna, hn] at hp
    cases hp
  rw [State.nodeState, State.node_enqueue, if_neg hne, State.node_setNode, if_neg hne] at hx
  exact ⟨x, hx, Iff.rfl⟩

theorem State.UncertainLaw.dropNode (hs : s.UncertainLaw) (n : NodeId) :
    ((s.releaseNode n).setNode n none).UncertainLaw := by
  refine hs.of_marks (fun _ _ h => h) fun _ m _ x _ hx => ⟨x, ?_, Iff.rfl⟩
  rw [State.nodeState_setNode] at hx
  split at hx
  · cases hx
  · exact hx

theorem State.UncertainLaw.slotTakes (hs : s.UncertainLaw) (hq : s.QueuedUnsynced) (j : SlotId) :
    (s.slotTakes j).UncertainLaw := by
  rcases s.slotTakes_cases j with ⟨ht, -⟩ | ⟨n, rest, hj, hw, ht⟩
  · rwa [ht]
  · refine hs.of_unsynced (n := n) (x := .resyncing) (fun i => State.mark_congr (by simp) i) nofun (fun hn => ?_) fun m => ?_
    · exact (hq n hn).1 (by rw [hw]; exact List.mem_cons_self)
    · rw [ht]
      exact State.nodeState_modNode s n m (f := fun r => { r with state := .resyncing, attempts := 0 })
        (g := fun _ => .resyncing) fun _ => rfl

/-- The sources of a node that reports its levels are certain, and the node SYNCED (R105). -/
theorem State.UncertainLaw.resync (hs : s.UncertainLaw) {n : NodeId} {r : Node} (q : Byte) (hn : s.node n = some r) :
    (((s.markUncertain n false).modNode n fun x =>
      { x with expected := q, state := .synced, wasLost := false }).releaseNode n).UncertainLaw := by
  refine hs.of_node (b := false) (x := .synced) (State.mark_markUncertain s n false) (by simp) fun m => ?_
  refine (State.nodeState_modNode (s.markUncertain n false) n m
    (f := fun x => { x with expected := q, state := .synced, wasLost := false }) (g := fun _ => .synced)
    fun _ => rfl).trans ?_
  have hst : (s.markUncertain n false).nodeState n = some r.state := State.nodeState_of_node (s := s) hn
  rw [hst, Option.map_some]
  rfl

/-- At field link-down a source of a SYNCED field node becomes uncertain; any other was uncertain before (R112). -/
theorem State.UncertainLaw.fieldNodesDown (hs : s.UncertainLaw) : s.fieldNodesDown.UncertainLaw := by
  refine State.uncertainLaw_iff _ |>.2 fun i n u hi x hx => ?_
  rw [State.mark, State.source_fieldNodesDown, Option.map_map] at hi
  obtain ⟨a, ha, he⟩ := Option.map_eq_some_iff.1 hi
  have hold : ∀ y, s.nodeState a.config.node = some y → (a.uncertain = true ↔ y ≠ .synced) :=
    s.uncertainLaw_iff.1 hs i _ _ (by rw [State.mark, ha, Option.map_some])
  rw [State.nodeState_fieldNodesDown] at hx
  simp only [Function.comp_apply] at he
  split at he
  · rename_i hsync
    obtain ⟨rfl, rfl⟩ := Prod.mk.inj he
    rw [if_neg hsync.1] at hx
    obtain ⟨-, -, rfl⟩ := Option.map_eq_some_iff.1 hx
    simp
  · rename_i hsync
    obtain ⟨rfl, rfl⟩ := Prod.mk.inj he
    split at hx
    · exact hold x hx
    · rename_i h0
      obtain ⟨y, hy, rfl⟩ := Option.map_eq_some_iff.1 hx
      exact iff_of_true ((hold y hy).2 fun e => hsync ⟨h0, e ▸ hy⟩) nofun

/-- A warm reset leaves every field node WAITING, and every source of one uncertain (R44, R114). -/
theorem State.uncertainLaw_warmReset (s : State) : s.warmReset.UncertainLaw := by
  refine State.uncertainLaw_iff _ |>.2 fun i n u hi x hx => ?_
  rw [State.mark, State.source_warmReset, Option.map_map] at hi
  obtain ⟨a, -, he⟩ := Option.map_eq_some_iff.1 hi
  obtain ⟨rfl, rfl⟩ := Prod.mk.inj he
  obtain ⟨-, -, rfl⟩ := Option.map_eq_some_iff.1 ((s.nodeState_warmReset a.config.node).symm.trans hx)
  by_cases h0 : a.config.node = 0 <;> simp [Source.warm, h0]

end

theorem Move.uncertainLaw {s t : State} (h : Move s t) (hk : s.KeyLaw) (hq : s.QueuedUnsynced) (hs : s.UncertainLaw) :
    t.UncertainLaw := by
  have states (hn : t.nodes = s.nodes) := State.nodeState_congr hn
  cases h with
  | aside h => exact hs.congr (State.mark_congr h.sources) (states h.nodes)
  | event i hf => exact hs.congr (s.mark_changeSource i fun a => ⟨by rw [hf.config], hf.uncertain a⟩) (states (by simp))
  | grant k i a _ _ _ _ =>
    exact hs.congr (fun j => State.mark_changeSource _ i (f := Source.grant k) (fun _ => ⟨rfl, rfl⟩) j)
      (states (by simp))
  | complete k i _ =>
    exact hs.congr (fun j => State.mark_changeSource _ i (f := Source.complete) (fun _ => ⟨rfl, rfl⟩) j)
      (states (by simp))
  | expire k c _ => exact hs.congr (s.mark_reclaim k c) (states (by simp))
  | endSession k => exact hs.congr (s.mark_endSession k) (states (by simp))
  | load i g r _ hn _ _ _ => exact hs.load hn
  | update i g a hi hn _ _ _ _ _ => exact hs.update hi hn
  | drop i a _ => exact hs.drop i a
  | setBlocked i b a hi => exact hs.setBlocked hi b
  | record n hf => exact hs.congr (fun _ => rfl) fun m => s.nodeState_modNode_of_same n m hf.state
  | attempt j e p he =>
    exact hs.congr (fun _ => rfl) fun m =>
      s.nodeState_modNode_of_same e.node m (f := fun r => { r with attempts := r.attempts + 1 }) fun _ => rfl
  | create n o hn => exact hs.create hk o hn
  | dropNode n _ _ => exact hs.dropNode n
  | slotTakes j => exact hs.slotTakes hq j
  | desync n r _ hn _ =>
    exact hs.of_node (b := true) (x := .waiting) (State.mark_markUncertain (s.enqueue n) n true) (by simp)
      (State.nodeState_enqueue hn)
  | requeue n r _ hn hr =>
    refine hs.of_unsynced (n := n) (x := .waiting) (fun _ => rfl) nofun ?_ fun m => ?_
    · rw [State.nodeState_of_node hn, hr]
      simp
    · rw [State.nodeState_enqueue hn, State.nodeState_of_node hn, Option.map_some]
  | resync n r q _ hn => exact hs.resync q hn
  | lost j e he =>
    refine hs.of_unsynced (n := e.node) (x := .lost) (fun _ => rfl) nofun (fun hn => ?_) fun m => ?_
    · exact (hq e.node hn).2 j (by rw [State.slotNode, he, Option.map_some])
    · exact State.nodeState_modNode s e.node m (f := fun x => { x with state := .lost, wasLost := true })
        (g := fun _ => .lost) fun _ => rfl
  | fieldNodesDown => exact hs.fieldNodesDown
  | warmReset => exact s.uncertainLaw_warmReset
  | powerOnReset => exact fun i a ha => absurd ((s.source_powerOnReset i).symm.trans ha) (by simp)
  | _ => exact hs.congr (fun _ => rfl) (states rfl)

/-- Settles O58: every move keeps the law of the uncertain flags beside the keys' nodes being present and the queued
nodes not being SYNCED. -/
theorem uncertaintyKept : Obligations.UncertaintyKept :=
  keptByStep_of_moves (Q := fun s => s.KeyLaw ∧ s.QueuedUnsynced) (fun _ h => ⟨h.1, h.2.queuedUnsynced⟩)
    fun _ _ h hq hs => ⟨⟨h.keyLaw hq.1, h.queuedUnsynced hq.2⟩, h.uncertainLaw hq.1 hq.2 hs⟩

end Sys2Proof.Machine
end

section
/-! PROOFS. The requests in common (Section 7.2): what the acts of the owning blocks leave alone, the common checks, when
a request waits, and the statuses. -/

namespace Sys2Proof.Machine

open Sys2Proof

/-! ## What the acts leave alone -/

/-- Queue of commands, mode, timing, contacts, ports and pins are the same. -/
structure State.SameRest (s t : State) : Prop where
  pending : t.pending = s.pending
  mode : t.mode = s.mode
  retained : t.retained = s.retained
  resyncWait : t.resyncWait = s.resyncWait
  resyncTries : t.resyncTries = s.resyncTries
  straps : t.straps = s.straps
  contacts : t.contacts = s.contacts
  trunk : t.trunk = s.trunk
  field : t.field = s.field
  pins : t.pins = s.pins

theorem State.SameRest.refl (s : State) : s.SameRest s := ⟨rfl, rfl, rfl, rfl, rfl, rfl, rfl, rfl, rfl, rfl⟩

theorem State.SameRest.trans {s t u : State} (h : s.SameRest t) (h' : t.SameRest u) : s.SameRest u :=
  ⟨h'.pending.trans h.pending, h'.mode.trans h.mode, h'.retained.trans h.retained, h'.resyncWait.trans h.resyncWait,
    h'.resyncTries.trans h.resyncTries, h'.straps.trans h.straps, h'.contacts.trans h.contacts, h'.trunk.trans h.trunk,
    h'.field.trans h.field, h'.pins.trans h.pins⟩

section
variable (s : State)

theorem State.sameRest_setSource (i : SourceIx) (a : Option Source) : s.SameRest (s.setSource i a).reEvaluateAll :=
  ⟨rfl, rfl, rfl, rfl, rfl, rfl, rfl, rfl, rfl, rfl⟩

theorem State.sameRest_setPromotion (p : PromoSlot) (o : Option SourceIx) :
    s.SameRest (s.setPromotion p o).reEvaluateAll := ⟨rfl, rfl, rfl, rfl, rfl, rfl, rfl, rfl, rfl, rfl⟩

theorem State.sameRest_setNode (n : NodeId) (r : Option Node) : s.SameRest (s.setNode n r) :=
  ⟨rfl, rfl, rfl, rfl, rfl, rfl, rfl, rfl, rfl, rfl⟩

theorem State.sameRest_changeSource (i : SourceIx) (f : Source → Source) : s.SameRest (s.changeSource i f) := by
  constructor <;> simp

theorem State.sameRest_grant (k : AgentId) (i : SourceIx) (a : Source) : s.SameRest (s.grant k i a) := by
  constructor <;> simp

theorem State.sameRest_endSession (k : AgentId) : s.SameRest (s.endSession k) := by constructor <;> simp

theorem State.sameRest_fillSlots : s.SameRest s.fillSlots := by constructor <;> simp

theorem State.sameRest_setBlocked (i : SourceIx) (b : Bool) (a : Source) : s.SameRest (s.setBlocked i b a) := by
  constructor <;> simp

theorem State.sameRest_withdraw (i : SourceIx) (a : Source) : s.SameRest (s.withdraw i a) := by constructor <;> simp

end

section
variable {s t : State} (h : s.SameRest t)
include h

theorem State.SameRest.fillSlots : s.SameRest t.fillSlots := h.trans t.sameRest_fillSlots

theorem State.SameRest.changeSource (i : SourceIx) (f : Source → Source) : s.SameRest (t.changeSource i f) :=
  h.trans (t.sameRest_changeSource i f)

end

/-- Most requests leave the part's own state, the contacts and the ports alone. -/
theorem Acted.sameRest {s : State} {k : AgentId} {c : ReqCode} {p : State × Reply} (h : Acted s k c p)
    (h1 : c ≠ .setContact) (h2 : c ≠ .setTiming) (h3 : c ≠ .resume) : s.SameRest p.1 := by
  cases h with
  | refused _ => exact .refl s
  | reported _ => exact .refl s
  | join a _ _ => exact ⟨rfl, rfl, rfl, rfl, rfl, rfl, rfl, rfl, rfl, rfl⟩
  | leave _ => exact s.sameRest_endSession k
  | setMask m _ => exact ⟨rfl, rfl, rfl, rfl, rfl, rfl, rfl, rfl, rfl, rfl⟩
  | claim i a _ _ _ _ => exact s.sameRest_grant k i a
  | done i _ _ =>
    exact State.SameRest.changeSource (s := s) (t := s.modAgent k _) ⟨rfl, rfl, rfl, rfl, rfl, rfl, rfl, rfl, rfl, rfl⟩ _ _
  | putPromotion p i _ _ _ _ _ _ => exact s.sameRest_setPromotion p _
  | clearPromotion p _ => exact s.sameRest_setPromotion p _
  | load i _ _ _ _ _ _ _ _ => exact s.sameRest_setSource i _
  | update i _ _ _ _ _ _ _ _ _ _ => exact s.sameRest_setSource i _
  | dropSource i a _ _ =>
    exact State.SameRest.trans (t := ((s.setSource i none).unpromote i).withdraw i a)
      (State.SameRest.trans (t := (s.setSource i none).unpromote i)
        ⟨rfl, rfl, rfl, rfl, rfl, rfl, rfl, rfl, rfl, rfl⟩ (State.sameRest_withdraw _ _ _))
      ⟨rfl, rfl, rfl, rfl, rfl, rfl, rfl, rfl, rfl, rfl⟩
  | block i a _ _ => exact s.sameRest_setBlocked i true a
  | unblock i a _ _ => exact s.sameRest_setBlocked i false a
  | force i _ => exact s.sameRest_changeSource i _
  | release i _ => exact s.sameRest_changeSource i _
  | lossSource n _ _ _ _ => exact s.sameRest_setNode n _
  | create _ _ _ _ => exact State.SameRest.fillSlots ⟨rfl, rfl, rfl, rfl, rfl, rfl, rfl, rfl, rfl, rfl⟩
  | dropNode _ _ _ _ => exact State.SameRest.fillSlots ⟨rfl, rfl, rfl, rfl, rfl, rfl, rfl, rfl, rfl, rfl⟩
  | clearCounts n _ _ _ => exact s.sameRest_setNode n _
  | setContact _ _ => exact absurd rfl h1
  | setTiming _ _ _ _ _ => exact absurd rfl h2
  | clearCounters _ => exact ⟨rfl, rfl, rfl, rfl, rfl, rfl, rfl, rfl, rfl, rfl⟩
  | resume _ => exact absurd rfl h3
  | restart _ => exact .refl s

/-- No act of an owning block touches the trunk port: the reply alone does (R129). -/
theorem Acted.trunk {s : State} {k : AgentId} {c : ReqCode} {p : State × Reply} (h : Acted s k c p) :
    p.1.trunk = s.trunk := by
  by_cases h0 : c ≠ .setContact ∧ c ≠ .setTiming ∧ c ≠ .resume
  · exact (h.sameRest h0.1 h0.2.1 h0.2.2).trunk
  · cases h with
    | refused _ => rfl
    | reported _ => rfl
    | setContact a _ => exact s.changeContact_trunk _ _
    | setTiming _ _ _ _ _ => rfl
    | resume _ => simp
    | _ => exact absurd ⟨nofun, nofun, nofun⟩ h0

/-! ## The common checks (R130, Table 7-2) -/

theorem flagOf_isSome_iff (b : Byte) : (flagOf b).isSome = true ↔ b = 0x00#8 ∨ b = 0x01#8 := by
  unfold flagOf
  split
  · simp [*]
  · split <;> simp [*]

theorem ReqCode.wellFormed_iff (c : ReqCode) (args : List Byte) :
    c.wellFormed args = true ↔ args.length + 1 = c.len ∧ ∀ o ∈ c.clearOption args, o = 0x00#8 ∨ o = 0x01#8 := by
  unfold ReqCode.wellFormed
  rw [Bool.and_eq_true, decide_eq_true_eq]
  refine and_congr Iff.rfl ?_
  cases c.clearOption args with
  | none => simp
  | some o => simp [flagOf_isSome_iff]

section
variable {s : State} {c : ReqCode} {k : AgentId} {args : List Byte}

theorem State.commonCheck_badRequest (hw : c.wellFormed args ≠ true) : s.commonCheck c k args = some .badRequest := by
  simp [State.commonCheck, hw]

theorem State.commonCheck_notJoined (hw : c.wellFormed args = true) (hn : c.needsSession = true) (hj : ¬ s.Joined k) :
    s.commonCheck c k args = some .notJoined := by
  have ha : (s.agent k).attached = false := by simpa [Agent.attached] using hj
  simp [State.commonCheck, hw, hn, ha]

theorem State.commonCheck_noRole (hw : c.wellFormed args = true) (hs : c.needsSession = true → s.Joined k)
    (hn : c.needsRole args = true) (hr : s.role ≠ some k) : s.commonCheck c k args = some .noRole := by
  have ha : c.needsSession = true → (s.agent k).attached = true := fun h => (Agent.attached_iff _).2 (hs h)
  cases hc : c.needsSession with
  | false => simp [State.commonCheck, hw, hc, hn, hr]
  | true => simp [State.commonCheck, hw, ha hc, hn, hr]

theorem State.commonCheck_mode (hw : c.wellFormed args = true) (hs : c.needsSession = true → s.Joined k)
    (hr : c.needsRole args = true → s.role = some k) {m : Mode} (hm : c.needsMode = some m) (hne : s.mode ≠ m) :
    s.commonCheck c k args = some .mode := by
  have ha : c.needsSession = true → (s.agent k).attached = true := fun h => (Agent.attached_iff _).2 (hs h)
  have h1 : (c.needsSession && !(s.agent k).attached) = false := by
    cases hc : c.needsSession with
    | false => rfl
    | true => simp [ha hc]
  have h2 : (c.needsRole args && decide (s.role ≠ some k)) = false := by
    cases hc : c.needsRole args with
    | false => rfl
    | true => simp [hr hc]
  unfold State.commonCheck
  rw [h1, h2, hm]
  simp [hw, hne]

end

theorem ReqCode.of?_byte (c : ReqCode) : ReqCode.of? c.byte = some c := by cases c <;> decide

/-- The defined codes are 0x01 to 0x18 (Table 11-4). -/
theorem ReqCode.of?_eq_none_iff (b : Byte) : ReqCode.of? b = none ↔ b = 0x00#8 ∨ 0x18 < b.toNat := by
  revert b
  decide +kernel

theorem Frame.hasCode_cons {f : Frame} {b : Byte} {args : List Byte} (h : f.payload = b :: args) :
    f.hasCode = (ReqCode.of? b).isSome := by simp [Frame.hasCode, h]

/-- Settles O5: the check that fails first is the one `commonCheck` gives. -/
theorem commonChecksDecide : Obligations.CommonChecksDecide := by
  refine ⟨?defined, fun s f k h => ⟨fun code args hp hc => ?code, fun hp => ?empty⟩⟩
  case defined =>
    intro s f k c args h wellFormed session role
    have refused {st : ReplyStatus} (hk : s.commonCheck c k args = some st) :
        exec c.row s = .next (s.answer f { status := st }) := by
      rw [exec_row]
      exact serve_of_failed h.1 c c.own args h.2 st hk
    have wf : wellFormed ↔ c.wellFormed args = true := (c.wellFormed_iff args).symm
    refine ⟨fun hw => ?_, fun hw hs => ?_, fun hw hs hr => ?_, fun hw hs hr m hm hne => ?_⟩
    · exact refused (State.commonCheck_badRequest fun hx => hw (wf.2 hx))
    · obtain ⟨hn, hj⟩ := Classical.not_imp.1 hs
      exact refused (State.commonCheck_notJoined (wf.1 hw) hn hj)
    · obtain ⟨hn, hk⟩ := Classical.not_imp.1 hr
      exact refused (State.commonCheck_noRole (wf.1 hw) hs hn hk)
    · exact refused (State.commonCheck_mode (wf.1 hw) hs hr hm hne)
  case code =>
    have hcode : f.hasCode = false := by
      rw [Frame.hasCode_cons hp, (ReqCode.of?_eq_none_iff code).2 hc]
      rfl
    change execUndefinedRequestCode s = _
    simp only [execUndefinedRequestCode, State.requestHead_of_asks h, hcode]
    rfl
  case empty =>
    have hcode : f.hasCode = false := by simp [Frame.hasCode, hp]
    change execUndefinedRequestCode s = _
    simp only [execUndefinedRequestCode, State.requestHead_of_asks h, hcode, State.answer, State.replyFrame, hp,
      Bool.false_eq_true, if_false]
    rw [← show s.trunk.finishHead.queue = s.trunk.queue by simp]
    rfl

/-! ## Frames that wait (R126, R129) -/

theorem serve_of_no_head {s : State} (h : s.requestHead = none) (c : ReqCode)
    (own : AgentId → List Byte → State → State × Reply) : serve c own s = .next s := by
  simp [serve, h]

theorem serve_of_other_code {s : State} {f : Frame} {k : AgentId} (h : s.requestHead = some (f, k)) {c : ReqCode}
    (hc : f.payload.head? ≠ some c.byte) (own : AgentId → List Byte → State → State × Reply) :
    serve c own s = .next s := by
  simp [serve, h, hc]

/-- While there is no request to take, no request row takes anything. -/
theorem rows_of_no_head {s : State} (h : s.requestHead = none) :
    (∀ c : ReqCode, exec c.row s = .next s) ∧ exec .undefinedRequestCode s = .next s := by
  refine ⟨fun c => by rw [exec_row, serve_of_no_head h], ?_⟩
  change execUndefinedRequestCode s = _
  simp [execUndefinedRequestCode, h]

/-- What holds every trunk frame back (R126, R127, R145). -/
theorem State.trunkHead_eq_none {s : State} (h : s.trunk.link ≠ .up ∨ (∃ e ∈ s.trunk.queue, e.restart = true) ∨
    s.trunk.hold = true ∨ s.trunk.rx = []) : s.trunkHead = none := by
  unfold State.trunkHead State.processorFree
  rcases h with h | ⟨e, he, hr⟩ | h | h
  · simp [h]
  · have hp : s.restartPending = true := List.any_eq_true.2 ⟨e, he, hr⟩
    simp [hp]
  · simp [h]
  · simp [h]

theorem State.requestHead_of_no_trunkHead {s : State} (h : s.trunkHead = none) : s.requestHead = none := by
  simp [State.requestHead, h]

theorem State.requestHead_of_full {s : State} (h : 28 ≤ s.trunk.queue.length) : s.requestHead = none := by
  unfold State.requestHead
  split
  · rfl
  · split
    · rw [if_neg (by simp only [Config.replyThreshold]; omega)]
    · rfl
    · rfl

/-- A frame is no request when its station, kind or origin says so (Table 7-1). -/
theorem State.classify_not_request {s : State} {f : Frame}
    (h : f.dest ≠ 0xF0#8 + s.straps.setWidth 8 ∨ f.kind ≠ 0x10#8 ∨ f.orig.toNat < 0xE0 ∨ 0xE3 < f.orig.toNat)
    (k : AgentId) : s.classify f ≠ .request k := by
  unfold State.classify
  split
  · split <;> simp
  · split
    · rename_i hd
      have ho : agentOf f.orig = none := by
        rcases h with h | h | h
        · exact absurd hd.1 h
        · exact absurd hd.2 h
        · rw [← Option.not_isSome_iff_eq_none, agentOf_isSome]
          omega
      rw [ho]
      simp
    · simp

theorem State.requestHead_of_not_request {s : State} {f : Frame} (h : s.trunkHead = some f)
    (hc : ∀ k, s.classify f ≠ .request k) : s.requestHead = none := by
  unfold State.requestHead
  rw [h]
  dsimp only
  split
  · rename_i k hk
    exact absurd hk (hc k)
  · rfl
  · rfl

theorem State.classify_not_forward {s : State} {f : Frame}
    (h : f.dest.toNat = 0 ∨ 63 < f.dest.toNat ∨ f.kind ≠ 0x01#8) (n : NodeId) : s.classify f ≠ .forward n := by
  unfold State.classify
  split
  · rename_i m hm
    have hk : f.kind ≠ Config.kindData := by
      rcases h with h | h | h
      · rw [(stationOf_eq_none _).2 (by omega)] at hm
        cases hm
      · rw [(stationOf_eq_none _).2 (by omega)] at hm
        cases hm
      · exact h
    rw [if_neg hk]
    simp
  · split
    · split <;> simp
    · simp

/-- Settles O6: what stands in the way of the oldest frame, and what the oldest frame is not. -/
theorem requestsWait : Obligations.RequestsWait := by
  refine ⟨?held, fun s f k c h => ⟨fun hc => ?other, fun hc => ?own⟩,
    fun s f h hn => ?notRequest, fun s f h hn => ?notData⟩
  case held =>
    intro s held
    refine ⟨fun h => rows_of_no_head ?_, fun h => ?_⟩
    · rcases h with h | h
      · exact State.requestHead_of_no_trunkHead (State.trunkHead_eq_none h)
      · exact State.requestHead_of_full h
    · have hn := State.trunkHead_eq_none h
      constructor
      · change execForeignFrame s = _
        simp [execForeignFrame, hn]
      · change execTrunkDataTaken s = _
        simp [execTrunkDataTaken, hn]
  case other => rw [exec_row, serve_of_other_code (State.requestHead_of_asks h) hc]
  case own =>
    obtain ⟨args, hp⟩ : ∃ args, f.payload = c.byte :: args := by
      cases hp : f.payload with
      | nil => simp [hp] at hc
      | cons b args => simp only [hp, List.head?_cons, Option.some.injEq] at hc; exact ⟨args, by rw [hc]⟩
    have hcode : f.hasCode = true := by rw [Frame.hasCode_cons hp, c.of?_byte]; rfl
    change execUndefinedRequestCode s = _
    simp [execUndefinedRequestCode, State.requestHead_of_asks h, hcode]
  case notRequest =>
    exact rows_of_no_head
      (State.requestHead_of_not_request (State.trunkHead_of_takes h) (State.classify_not_request hn))
  case notData =>
    change execTrunkDataTaken s = _
    simp only [execTrunkDataTaken, State.trunkHead_of_takes h]
    split
    · rename_i n hf
      exact absurd hf (State.classify_not_forward hn n)
    · rfl
    · rfl

end Sys2Proof.Machine
end

section
/-! PROOFS. The reply every owning block gives (R132, Table 7-4): its status is one the request may have, and a refusal
comes with nothing else. -/

namespace Sys2Proof.Machine

open Sys2Proof

/-- A result of an owning block that keeps R132: the status is one of the request's, and a refusal leaves the state. -/
def ReqCode.Answers (c : ReqCode) (s : State) (p : State × Reply) : Prop :=
  p.2.status.givenTo c = true ∧
    (p.2.status ≠ .ok → p.2.status ≠ .roleTaken → p.1 = s ∧ p.2.report = [] ∧ p.2.restart = false)

section
variable {c : ReqCode} {s : State}

/-- A refusal. -/
theorem ReqCode.Answers.bare {st : ReplyStatus} (h : st.givenTo c = true) : c.Answers s (s, Reply.bare st) :=
  ⟨h, fun _ _ => ⟨rfl, rfl, rfl⟩⟩

/-- A request carried out is answered OK, which every request may be. -/
theorem ReqCode.Answers.done (t : State) (bytes : List Byte) : c.Answers s (t, Reply.done bytes) :=
  ⟨rfl, fun h => absurd rfl h⟩

end

/-- A JOIN is carried out with or without the role (R66). -/
theorem State.joinStatus_cases (s : State) (k : AgentId) (a : JoinArgs) :
    s.joinStatus k a = .roleTaken ∨ s.joinStatus k a = .ok := by
  unfold State.joinStatus
  exact ite_eq_or_eq _ _ _

/-- What an owning block answers: a refusal leaves everything, and a JOIN alone is carried out with another status than
OK (R66, R132). -/
theorem Acted.answers {s : State} {k : AgentId} {c : ReqCode} {p : State × Reply} (h : Acted s k c p) : c.Answers s p := by
  cases h with
  | refused h => exact .bare h
  | join a _ _ =>
    refine ⟨?_, fun hok hrole => ?_⟩
    · change (s.joinStatus k a).givenTo .join = true
      rcases s.joinStatus_cases k a with h | h <;> rw [h] <;> rfl
    · exact ((s.joinStatus_cases k a).elim hrole hok).elim
  | restart _ => exact ⟨rfl, fun h => absurd rfl h⟩
  | _ => exact .done _ _

/-- The status a common check gives is one of the request's (Table 7-2, Table 7-4). -/
theorem ReqCode.commonCheck_givenTo {c : ReqCode} {k : AgentId} {args : List Byte} {s : State} {st : ReplyStatus}
    (h : s.commonCheck c k args = some st) : st.givenTo c = true := by
  unfold State.commonCheck at h
  split at h
  · cases h
    rfl
  · split at h
    · rename_i hs
      cases h
      exact (Bool.and_eq_true_iff.1 hs).1
    · split at h
      · rename_i hr
        cases h
        have hn := (Bool.and_eq_true_iff.1 hr).1
        revert hn
        cases c <;> simp [ReqCode.needsRole, ReplyStatus.givenTo]
      · split at h
        · rename_i m hm
          split at h
          · cases h
          · cases h
            revert hm
            cases c <;> simp [ReqCode.needsMode, ReplyStatus.givenTo]
        · cases h

/-- Settles O7: a common check or the owning block gives the reply. -/
theorem statusesAndRefusals : Obligations.StatusesAndRefusals := by
  intro s f k c h hc
  rw [exec_row, serve_of_asks h c c.own hc]
  unfold State.carryOut
  split
  · rename_i st hst
    exact ⟨s, Reply.bare st, rfl, c.commonCheck_givenTo hst, rfl, fun _ _ => ⟨rfl, rfl, rfl⟩⟩
  · have ha := (c.acted k f.payload.tail s).answers
    exact ⟨_, _, rfl, ha.1, (c.acted k _ s).trunk, ha.2⟩

end Sys2Proof.Machine
end

section
/-! PROOFS. What a command can do to the part's own state, the contacts and the ports, in small moves; and the laws of
Section 9.1, of the queues, of the mode, the timing and the filters, each kept by every move. -/

namespace Sys2Proof.Machine

open Sys2Proof

/-! ## Moves -/

/-- The moves of a port whose transmit queue takes a frame only below `b` (Chapter 9, R161, R164). -/
inductive LineMove (b : Nat) : Line → Line → Prop where
  | finish (l : Line) (h : l.rx ≠ [] ∨ l.hold = true) : LineMove b l l.finishHead
  | take (l : Line) (h : l.rx ≠ []) : LineMove b l { l with hold := true }
  | place (l : Line) (f : Frame) (r : Bool) (h : l.queue.length < b)
      (hr : r = true → ∀ e ∈ l.queue, e.restart = false) : LineMove b l (l.place f r)
  | begin (l : Line) (w : Sending) (h : l.canSend = true) (hw : w = .head → l.queue ≠ []) : LineMove b l (l.begin w)
  | sent (l : Line) (f : Frame) : LineMove b l (l.finishSending f)
  | headSent (l : Line) (e : TxEntry) (rest : List TxEntry) (h : l.queue = e :: rest) : LineMove b l (l.headSent e rest)
  | stop (l : Line) (h : l.sending = some .head) (hq : l.queue = []) : LineMove b l { l with sending := none }
  | receive (l : Line) (f : Frame) (h : l.creditGiven ≠ 0) :
      LineMove b l { l with creditGiven := l.creditGiven - 1, rx := l.rx ++ [f] }
  | relend (l : Line) (h : l.creditGiven ≠ 0) : LineMove b l (Line.lend { l with creditGiven := l.creditGiven - 1 })
  | up (l : Line) (n : Nat) (h : l.link = .announcing) (hn : n ≤ 15) : LineMove b l { l with link := .up, sendCredit := n }
  | credit (l : Line) (h : l.link = .up) (hc : l.sendCredit < 15) :
      LineMove b l { l with sendCredit := l.sendCredit + 1 }
  | announce (l : Line) (h : l.link = .quiet) : LineMove b l { l with link := .announcing }
  | symbol (l : Line) (i : LineItem) : LineMove b l { l with sent := l.sent ++ [i] }

/-- The moves of the part's own state, the contacts and the ports. -/
inductive PartMove : State → State → Prop where
  | same {s t : State} (h : s.SameRest t) : PartMove s t
  | trunk (s : State) {l : Line} (h : LineMove 30 s.trunk l) : PartMove s { s with trunk := l }
  | field (s : State) {l : Line} (h : LineMove 16 s.field l) : PartMove s { s with field := l }
  | trunkQuiet (s : State) : PartMove s { s with trunk := s.trunk.enterQuiet 8 }
  | fieldQuiet (s : State) : PartMove s { s with field := s.field.enterQuiet s.fieldGiven }
  | contact (s : State) (n : Channel) (c : Contact) (h : (s.contacts[n]).Law → c.Law) :
      PartMove s { s with contacts := s.contacts.set n c }
  | timing (s : State) (w t : Nat) (hw : 1 ≤ w ∧ w ≤ 255) (ht : 1 ≤ t ∧ t ≤ 7) :
      PartMove s { s with resyncWait := w, resyncTries := t }
  | resume (s : State) (h : s.mode = .standby) : PartMove s ({ s with mode := .run, retained := false } : State).lendField
  | readPins (s : State) (v : BitVec 3) (p : Pins) : PartMove s { s with straps := v, pins := p }
  | warmReset (s : State) : PartMove s s.warmReset
  | powerOnReset (s : State) : PartMove s s.powerOnReset

def PartMoves : State → State → Prop := Relation.ReflTransGen PartMove

section
variable {s t u : State}

theorem PartMoves.refl : PartMoves s s := Relation.ReflTransGen.refl

theorem PartMove.run (h : PartMove s t) : PartMoves s t := Relation.ReflTransGen.single h

theorem PartMoves.trans (h : PartMoves s t) (h' : PartMoves t u) : PartMoves s u := Relation.ReflTransGen.trans h h'

theorem PartMoves.before (h : PartMoves s t) (h' : PartMove t u) : PartMoves s u := Relation.ReflTransGen.tail h h'

theorem PartMoves.same (h : s.SameRest t) : PartMoves s t := (PartMove.same h).run

theorem PartMoves.toSame (h : PartMoves s t) (h' : t.SameRest u) : PartMoves s u := h.before (.same h')

theorem PartMoves.trunk {l : Line} (h : LineMove 30 s.trunk l) : PartMoves s { s with trunk := l } :=
  (PartMove.trunk s h).run

theorem PartMoves.field {l : Line} (h : LineMove 16 s.field l) : PartMoves s { s with field := l } :=
  (PartMove.field s h).run

theorem PartMoves.keeps {L : State → Prop} (hL : ∀ s t, PartMove s t → L s → L t) (h : PartMoves s t) (hs : L s) :
    L t := by
  induction h with
  | refl => exact hs
  | tail _ hm ih => exact hL _ _ hm ih

end

/-! ## What the operations of the tables leave alone -/

section
variable (s : State)

theorem State.sameRest_count (f : Counters → Counters) : s.SameRest (s.count f) :=
  ⟨rfl, rfl, rfl, rfl, rfl, rfl, rfl, rfl, rfl, rfl⟩

theorem State.sameRest_contactReport (n : Channel) (o : Option Transition) : s.SameRest (s.contactReport n o) := by
  constructor <;> simp

theorem State.sameRest_takeEvt (n : NodeId) (r : Node) (c : Channel) (t : Transition) (q : Byte) :
    s.SameRest (s.takeEvt n r c t q) := by constructor <;> simp

theorem State.sameRest_takeState (n : NodeId) (r : Node) (levels : BitVec 16) (q : Byte) :
    s.SameRest (s.takeState n r levels q) := by constructor <;> simp

theorem State.sameRest_waitExpiry (j : SlotId) : s.SameRest (s.waitExpiry j) := by constructor <;> simp

theorem State.sameRest_expire (k : AgentId) (c : Claim) : s.SameRest (s.expire k c) := by constructor <;> simp

theorem State.sameRest_queryTransmitted (dest : Byte) : s.SameRest (s.queryTransmitted dest) := by
  constructor <;> simp

theorem State.sameRest_fieldUp : s.SameRest s.fieldUp := by constructor <;> simp

theorem State.sameRest_endSessions : s.SameRest s.endSessions := by constructor <;> simp

theorem State.sameRest_modAgent (k : AgentId) (f : Agent → Agent) : s.SameRest (s.modAgent k f) :=
  ⟨rfl, rfl, rfl, rfl, rfl, rfl, rfl, rfl, rfl, rfl⟩

theorem State.sameRest_setSlots (v : Vector (Option Slot) 4) : s.SameRest { s with slots := v } :=
  ⟨rfl, rfl, rfl, rfl, rfl, rfl, rfl, rfl, rfl, rfl⟩

theorem State.sameRest_fieldNodesDown (n : Notice) : s.SameRest (s.fieldNodesDown.notifyFlagged n) :=
  ⟨rfl, rfl, rfl, rfl, rfl, rfl, rfl, rfl, rfl, rfl⟩

end

theorem State.sameRest_serveAlerts (l : List AgentId) (s : State) : s.SameRest (s.serveAlerts l).1 := by
  induction l generalizing s with
  | nil => exact .refl s
  | cons k l ih =>
    rw [State.serveAlerts_cons]
    split
    · split
      · exact (s.sameRest_modAgent k _).trans (ih _)
      · exact s.sameRest_modAgent k fun a => { a with alert := false, lastSent := s.attention k }
    · exact ih s

/-! ## The contact inputs -/

/-- A sample keeps the law of its filter (R117, R118). -/
theorem Contact.law_sample {c : Contact} (pin : Bool) (h : c.Law) : (c.sample pin).Law := by
  unfold Contact.sample
  split
  · exact h
  · exact Nat.zero_le _
  · rename_i runLevel run hf
    obtain ⟨hle, -⟩ : run ≤ c.length.val ∧ (runLevel = none ↔ run = 0) := by simpa [Contact.Law, hf] using h
    have hrun : 1 ≤ (if runLevel = some pin then run + 1 else 1) ∧ (if runLevel = some pin then run + 1 else 1) ≤ run + 1 := by
      split <;> omega
    generalize (if runLevel = some pin then run + 1 else 1) = run' at hrun ⊢
    dsimp only
    split
    · exact Nat.zero_le _
    · simp only [Contact.Law, reduceCtorEq, false_iff]
      omega
  · rename_i level run hf
    have hle : run ≤ c.length.val := by simpa [Contact.Law, hf] using h
    split
    · exact Nat.zero_le _
    · split
      · exact Nat.zero_le _
      · simp only [Contact.Law]
        omega

/-- A SET-CONTACT keeps the law of the filter: a changed length restarts the count (R122). -/
theorem Contact.law_configure {c : Contact} (a : ContactArgs) (h : c.Law) : (c.configure a).Law := by
  unfold Contact.Law Contact.configure Contact.refilter
  unfold Contact.Law at h
  dsimp only
  split
  · trivial
  · trivial
  · rename_i runLevel run hf
    split at hf
    · cases hf
    · cases hf
    · cases hf
    · rename_i hc
      rw [hc] at h
      split at hf
      · rename_i hl
        cases hf
        rw [hl]
        exact h
      · cases hf
        simp
    · split at hf <;> cases hf
  · rename_i level run hf
    split at hf
    · cases hf
    · cases hf
    · cases hf
    · split at hf <;> cases hf
    · rename_i hc
      rw [hc] at h
      split at hf
      · rename_i hl
        cases hf
        rw [hl]
        exact h
      · cases hf
        exact Nat.zero_le _

theorem PartMoves.changeContact (s : State) (n : Channel) (c : Contact) (h : (s.contacts[n]).Law → c.Law) :
    PartMoves s (s.changeContact n c) :=
  (PartMove.contact s n c h).run.toSame (State.sameRest_contactReport _ _ _)

/-! ## The requests -/

/-- The reply: the request's buffer is lent again, and the reply placed behind fewer than 28 frames (R129). -/
theorem PartMoves.answer {s : State} (f : Frame) (r : Reply) (hx : s.trunk.rx ≠ []) (hq : s.trunk.queue.length < 28)
    (hr : s.restartPending = false) : PartMoves s (s.answer f r) := by
  have hm : ∀ e ∈ s.trunk.finishHead.queue, e.restart = false := by
    rw [Line.finishHead_queue]
    intro e he
    simpa using List.any_eq_false.1 hr e he
  have hl : s.trunk.finishHead.queue.length < 30 := by
    rw [Line.finishHead_queue]
    omega
  have hf : PartMoves s s.finishTrunk := .trunk (.finish s.trunk (.inl hx))
  exact hf.before (.trunk s.finishTrunk (.place _ (s.replyFrame f r) r.restart hl fun _ => hm))

/-- The act of an owning block: RESUME alone needs what the common checks found. -/
theorem Acted.partMoves {s : State} {k : AgentId} {c : ReqCode} {p : State × Reply} (h : Acted s k c p)
    (hm : c.needsMode = some .standby → s.mode = .standby) : PartMoves s p.1 := by
  by_cases h0 : c ≠ .setContact ∧ c ≠ .setTiming ∧ c ≠ .resume
  · exact .same (h.sameRest h0.1 h0.2.1 h0.2.2)
  · cases h with
    | refused _ => exact .refl
    | reported _ => exact .refl
    | setContact a _ => exact .changeContact s _ _ (Contact.law_configure a)
    | setTiming w t _ hw ht => exact (PartMove.timing s w t hw ht).run
    | resume _ =>
      refine (PartMove.resume s (hm rfl)).run.toSame ?_
      constructor <;> simp [State.lendField]
    | _ => exact absurd ⟨nofun, nofun, nofun⟩ h0

theorem PartMoves.request {c : ReqCode} {s t : State} (h : exec c.row s = .next t) : PartMoves s t := by
  rw [exec_row] at h
  rcases serve_next h with rfl | ⟨f, k, hf, -, hcase⟩
  · exact .refl
  · obtain ⟨-, hr, -, hx, -, hq⟩ := State.requestHead_some hf
    have hne : s.trunk.rx ≠ [] := by
      intro h0
      simp [h0] at hx
    rcases hcase with ⟨st, rfl⟩ | ⟨hk, rfl⟩
    · exact .answer f _ hne hq hr
    · have hacted := c.acted k f.payload.tail s
      have ht := hacted.trunk
      exact (hacted.partMoves (((s.commonCheck_none c k _).1 hk).2.2.2 _)).trans (.answer f _ (by rwa [ht]) (by rwa [ht])
        (by unfold State.restartPending; rw [ht]; exact hr))

/-! ## The other commands -/

section
variable {s t : State}

/-- The processor takes its frame from buffers that hold one (R126). -/
theorem State.trunkHead_some {f : Frame} (h : s.trunkHead = some f) : s.trunk.rx ≠ [] := by
  intro h0
  simp [State.trunkHead, h0] at h

/-- The intake takes its frame in RUN, from buffers that hold one (R159). -/
theorem State.fieldHead_some {kind : Byte} {f : Frame} (h : s.fieldHead kind = some f) :
    s.mode = .run ∧ s.field.rx ≠ [] := by
  unfold State.fieldHead State.intakeFree at h
  split at h
  · rename_i hfree
    simp only [Bool.and_eq_true, decide_eq_true_eq] at hfree
    refine ⟨hfree.1.1, fun h0 => ?_⟩
    simp [h0] at h
  · cases h

theorem Line.hold_of_inHand {l : Line} {f : Frame} (h : l.inHand = some f) : l.hold = true := by
  unfold Line.inHand at h
  split at h
  · assumption
  · cases h

theorem PartMoves.finishTrunk (h : s.trunk.rx ≠ [] ∨ s.trunk.hold = true) : PartMoves s s.finishTrunk :=
  .trunk (.finish s.trunk h)

theorem PartMoves.finishField (h : s.field.rx ≠ [] ∨ s.field.hold = true) : PartMoves s s.finishField :=
  .field (.finish s.field h)

theorem PartMoves.dropStray (h : s.field.rx ≠ []) : PartMoves s s.dropStray :=
  (PartMoves.finishField (.inl h)).toSame (State.sameRest_count _ _)

theorem PartMoves.undefinedRequestCode (h : execUndefinedRequestCode s = .next t) : PartMoves s t := by
  unfold execUndefinedRequestCode at h
  split at h
  · rename_i hr
    obtain ⟨-, hp, -, hx, -, hq⟩ := State.requestHead_some hr
    split at h
    · cases h
      exact .refl
    · cases h
      exact .answer _ _ (fun h0 => by simp [h0] at hx) hq hp
  · cases h
    exact .refl

theorem PartMoves.foreignFrame (h : execForeignFrame s = .next t) : PartMoves s t := by
  unfold execForeignFrame at h
  split at h
  · rename_i hf
    split at h
    · cases h
      exact (PartMoves.finishTrunk (.inl (State.trunkHead_some hf))).toSame (State.sameRest_count _ _)
    all_goals
      cases h
      exact .refl
  · cases h
    exact .refl

theorem PartMoves.trunkDataTaken (h : execTrunkDataTaken s = .next t) : PartMoves s t := by
  unfold execTrunkDataTaken at h
  split at h
  · rename_i hf
    have hx := State.trunkHead_some hf
    split at h
    · split at h
      · cases h
        exact .trunk (.take s.trunk hx)
      · cases h
        exact (PartMoves.finishTrunk (.inl hx)).toSame (State.sameRest_count _ _)
    all_goals
      cases h
      exact .refl
  · cases h
    exact .refl

theorem PartMoves.trunkDataPlaced (h : execTrunkDataPlaced s = .next t) : PartMoves s t := by
  unfold execTrunkDataPlaced at h
  split at h
  · rename_i f hf
    split at h
    · rename_i hq
      cases h
      have hl : s.finishTrunk.field.queue.length < 16 := Nat.lt_trans hq (by decide)
      exact (PartMoves.finishTrunk (.inr (Line.hold_of_inHand hf))).before
        (.field s.finishTrunk (.place _ f false hl nofun))
    · cases h
      exact .refl
  · cases h
    exact .refl

theorem PartMoves.evt (h : execEvt s = .next t) : PartMoves s t := by
  unfold execEvt at h
  split at h
  · cases h
    exact .refl
  · rename_i hf
    have hx := (State.fieldHead_some hf).2
    split at h
    · split at h
      · cases h
        exact (PartMoves.finishField (.inl hx)).toSame (State.sameRest_takeEvt _ _ _ _ _ _)
      · cases h
        exact .dropStray hx
    all_goals
      cases h
      exact .dropStray hx

theorem PartMoves.state (h : execState s = .next t) : PartMoves s t := by
  unfold execState at h
  split at h
  · cases h
    exact .refl
  · rename_i hf
    have hx := (State.fieldHead_some hf).2
    split at h
    · split at h
      · cases h
        exact (PartMoves.finishField (.inl hx)).toSame (State.sameRest_takeState _ _ _ _ _)
      · cases h
        exact .dropStray hx
    all_goals
      cases h
      exact .dropStray hx

theorem PartMoves.fieldDataTaken (h : execFieldDataTaken s = .next t) : PartMoves s t := by
  unfold execFieldDataTaken at h
  split at h
  · cases h
    exact .refl
  · rename_i hf
    have hx := (State.fieldHead_some hf).2
    split at h
    · cases h
      exact .dropStray hx
    · split at h
      · cases h
        exact .field (.take s.field hx)
      · cases h
        exact (PartMoves.finishField (.inl hx)).toSame (State.sameRest_count _ _)

theorem PartMoves.fieldDataPlaced (h : execFieldDataPlaced s = .next t) : PartMoves s t := by
  unfold execFieldDataPlaced at h
  split at h
  · rename_i f hf
    split at h
    · rename_i hq
      cases h
      have hl : s.finishField.trunk.queue.length < 30 := Nat.lt_trans hq (by decide)
      exact (PartMoves.finishField (.inr (Line.hold_of_inHand hf))).before
        (.trunk s.finishField (.place _ f false hl nofun))
    · cases h
      exact .refl
  · cases h
    exact .refl

theorem PartMoves.strayFrame (h : execStrayFrame s = .next t) : PartMoves s t := by
  unfold execStrayFrame at h
  split at h
  · split at h
    · cases h
      exact .refl
    · rename_i hx
      split at h
      · cases h
        exact .refl
      · cases h
        exact .dropStray (by rw [hx]; exact List.cons_ne_nil _ _)
  · cases h
    exact .refl

theorem PartMoves.moveNotice (h : execMoveNotice s = .next t) : PartMoves s t := by
  unfold execMoveNotice at h
  split at h
  · rename_i hq
    split at h
    · cases h
      exact .refl
    · split at h
      · cases h
        exact .refl
      · cases h
        exact (PartMoves.trunk (.place s.trunk _ false hq nofun)).toSame (State.sameRest_modAgent _ _ _)
  · cases h
    exact .refl

theorem PartMoves.placeSyncq (h : execPlaceSyncq s = .next t) : PartMoves s t := by
  unfold execPlaceSyncq at h
  split at h
  · rename_i hq
    split at h
    · cases h
      exact .refl
    · split at h
      · cases h
        exact .refl
      · cases h
        exact (PartMoves.field (.place s.field _ false hq nofun)).toSame (State.sameRest_setSlots _ _)
  · cases h
    exact .refl

theorem PartMoves.sampleInputs (l : List Channel) (s : State) : PartMoves s (l.foldl State.sampleInput s) := by
  induction l generalizing s with
  | nil => exact .refl
  | cons n l ih => exact (PartMoves.changeContact s n _ (Contact.law_sample _)).trans (ih _)

theorem PartMoves.sampleEvent {levels : BitVec 16} (h : execSampleEvent levels s = .next t) : PartMoves s t := by
  unfold execSampleEvent at h
  split at h
  · cases h
    exact (PartMove.readPins s s.straps { s.pins with cin := levels }).run.trans (.sampleInputs _ _)
  · cases h
    exact .refl

theorem PartMoves.serviceTimerExpiry {agent index : Nat} (h : execServiceTimerExpiry agent index s = .next t) :
    PartMoves s t := by
  unfold execServiceTimerExpiry at h
  split at h
  · split at h
    · split at h
      · split at h
        · cases h
          exact .same (State.sameRest_expire _ _ _)
        · cases h
          exact .refl
      · cases h
        exact .refl
    · cases h
  · cases h

theorem PartMoves.trunkTransmitter (h : execTrunkTransmitter s = .next t) : PartMoves s t := by
  have hs := State.sameRest_serveAlerts (List.finRange 4) s
  unfold execTrunkTransmitter at h
  split at h
  · rename_i hc
    split at h
    · rename_i u f hu
      rw [hu] at hs
      cases h
      exact (PartMoves.same hs).before (.trunk u (.begin _ _ (by rw [hs.trunk]; exact hc) nofun))
    · rename_i u hu
      rw [hu] at hs
      split at h
      · cases h
        exact .same hs
      · rename_i hq
        cases h
        exact (PartMoves.same hs).before
          (.trunk u (.begin _ _ (by rw [hs.trunk]; exact hc) fun _ h0 => hq (by rw [h0]; rfl)))
  · cases h
    exact .refl

theorem PartMoves.fieldTransmitter (h : execFieldTransmitter s = .next t) : PartMoves s t := by
  unfold execFieldTransmitter at h
  split at h
  · rename_i hc
    obtain ⟨hsend, hq⟩ := Bool.and_eq_true_iff.1 hc
    cases h
    exact .field (.begin s.field .head hsend fun _ h0 => by simp [h0] at hq)
  · cases h
    exact .refl

theorem PartMoves.trunkLeaveDown (s : State) : PartMoves s { s with trunk := s.trunk.leaveDown 8 } := by
  unfold Line.leaveDown
  split
  · exact (PartMove.trunkQuiet s).run
  · exact .refl

theorem PartMoves.fieldLeaveDown (s : State) : PartMoves s { s with field := s.field.leaveDown s.fieldGiven } := by
  unfold Line.leaveDown
  split
  · exact (PartMove.fieldQuiet s).run
  · exact .refl

/-- The ports begin training at the end of a reset (R158). -/
theorem PartMoves.endReset (s : State) (v : BitVec 3) : PartMoves s (s.endReset v) :=
  ((PartMove.readPins s v _).run.trans (.trunkLeaveDown (s.readStraps v))).trans (.fieldLeaveDown _)

theorem PartMoves.trunkTransmitted (s : State) (v : BitVec 3) : PartMoves s (s.trunkTransmitted v) := by
  unfold State.trunkTransmitted
  split
  · exact .refl
  · exact .trunk (.sent s.trunk _)
  · rename_i hh hq
    exact .trunk (.stop s.trunk hh hq)
  · rename_i e rest _ hq
    have hsent : PartMoves s { s with trunk := s.trunk.headSent e rest } := .trunk (.headSent s.trunk e rest hq)
    dsimp only
    split
    · exact (hsent.before (.warmReset _)).trans (.endReset _ v)
    · exact hsent

theorem PartMoves.fieldTransmitted (s : State) : PartMoves s s.fieldTransmitted := by
  unfold State.fieldTransmitted
  split
  · exact .refl
  · exact .field (.sent s.field _)
  · rename_i hh hq
    exact .field (.stop s.field hh hq)
  · rename_i e rest _ hq
    have hsent : PartMoves s { s with field := s.field.headSent e rest } := .field (.headSent s.field e rest hq)
    dsimp only
    split
    · exact hsent.toSame (State.sameRest_queryTransmitted _ _)
    · exact hsent

/-- A move of a port that no bound of its queue concerns. -/
theorem PartMoves.setLine {p : PortId} {l : Line} (h : ∀ b, LineMove b (s.line p) l) : PartMoves s (s.setLine p l) := by
  cases p with
  | trunk => exact .trunk (h 30)
  | field => exact .field (h 16)

theorem PartMoves.frameReceived {p : PortId} {bytes : List Byte} (h : execFrameReceived p bytes s = .next t) :
    PartMoves s t := by
  unfold execFrameReceived at h
  dsimp only at h
  split at h
  · split at h
    · cases h
      exact .same (s.sameRest_count _)
    · rename_i hc
      split at h
      · rename_i f _
        cases h
        exact .setLine fun b => .receive (s.line p) f hc
      · cases h
        exact (PartMoves.setLine fun b => .relend (s.line p) hc).toSame (State.sameRest_count _ _)
  · cases h
    exact .refl

theorem PartMoves.readyReceived {p : PortId} {count : Nat} (h : execReadyReceived p count s = .next t) :
    PartMoves s t := by
  unfold execReadyReceived at h
  split at h
  · rename_i hle
    split at h
    · rename_i hl
      cases p with
      | trunk =>
        cases h
        exact .trunk (.up s.trunk count hl hle)
      | field =>
        cases h
        exact (PartMoves.field (.up s.field count hl hle)).toSame (State.sameRest_fieldUp _)
    · cases h
      exact .refl
  · cases h

theorem PartMoves.creditReceived {p : PortId} (h : execCreditReceived p s = .next t) : PartMoves s t := by
  unfold execCreditReceived at h
  dsimp only at h
  split at h
  · rename_i hc
    cases h
    exact .setLine fun b => .credit (s.line p) hc.1 hc.2
  · cases h
    exact .refl

theorem PartMoves.quietPhaseEnd {p : PortId} (h : execQuietPhaseEnd p s = .next t) : PartMoves s t := by
  unfold execQuietPhaseEnd at h
  dsimp only at h
  split at h
  · rename_i hq
    cases h
    exact .setLine fun b => .announce (s.line p) hq
  · cases h
    exact .refl

theorem PartMoves.readyFill {p : PortId} (h : execReadyFill p s = .next t) : PartMoves s t := by
  unfold execReadyFill at h
  dsimp only at h
  split at h
  · cases h
    exact .setLine fun b => .symbol (s.line p) _
  · cases h
    exact .refl

theorem PartMoves.trunkLinkDown (s : State) : PartMoves s s.trunkLinkDown := by
  have hq : PartMoves s { s with trunk := s.trunk.enterQuiet 8 } := (PartMove.trunkQuiet s).run
  have he := (hq.toSame (State.sameRest_count _ (Counters.addFlushed s.trunk.queue.length))).toSame
    (State.sameRest_endSessions _)
  unfold State.trunkLinkDown
  dsimp only
  split
  · rename_i hh
    have hf : ((({ s with trunk := s.trunk.enterQuiet 8 } : State).count
        (Counters.addFlushed s.trunk.queue.length)).endSessions).field = s.field := by simp
    exact (he.trans (.finishField (.inr (by rw [hf]; exact hh)))).toSame (State.sameRest_count _ _)
  · exact he

theorem PartMoves.fieldLinkDown (s : State) : PartMoves s s.fieldLinkDown := by
  have hq : PartMoves s { s with field := s.field.enterQuiet s.fieldGiven } := (PartMove.fieldQuiet s).run
  have hd := hq.toSame (State.sameRest_fieldNodesDown _ .fieldDown)
  unfold State.fieldLinkDown
  dsimp only
  split
  · rename_i f hf
    exact (hd.trans (.finishTrunk (.inr (Line.hold_of_inHand hf)))).before
      (.field _ (.place _ f false (Nat.zero_lt_succ 15) nofun))
  · exact hd

theorem PartMoves.silenceTimeout {p : PortId} (h : execSilenceTimeout p s = .next t) : PartMoves s t := by
  unfold execSilenceTimeout at h
  split at h
  · cases p with
    | trunk =>
      cases h
      exact .trunkLinkDown s
    | field =>
      cases h
      exact .fieldLinkDown s
  · cases h
    exact .refl

theorem PartMoves.driveRstn (s : State) (b : Bool) : PartMoves s (s.driveRstn b) := (PartMove.readPins s s.straps _).run

theorem PartMoves.resetEnd {v : BitVec 3} (h : execResetEnd v s = .next t) : PartMoves s t := by
  unfold execResetEnd at h
  split at h
  · cases h
    exact .refl
  · cases h
    exact (PartMoves.driveRstn s true).trans (.endReset _ v)

theorem PartMoves.powerOn {v : BitVec 3} {rstn : Bool} (h : execPowerOn v rstn s = .next t) : PartMoves s t := by
  have hp := (PartMove.powerOnReset s).run
  unfold execPowerOn at h
  split at h
  · cases h
    exact (hp.trans (.driveRstn _ true)).trans (.endReset _ v)
  · cases h
    exact hp.before (.readPins _ v _)

end

/-- Every command is a run of these moves. -/
theorem partMoves_of_exec {c : Instr} {s t : State} (h : exec c s = .next t) : PartMoves s t := by
  cases Instr.kind c with
  | request c => exact .request h
  | undefinedRequestCode => exact .undefinedRequestCode h
  | foreignFrame => exact .foreignFrame h
  | trunkDataTaken => exact .trunkDataTaken h
  | trunkDataPlaced => exact .trunkDataPlaced h
  | evt => exact .evt h
  | state => exact .state h
  | fieldDataTaken => exact .fieldDataTaken h
  | fieldDataPlaced => exact .fieldDataPlaced h
  | strayFrame => exact .strayFrame h
  | moveNotice => exact .moveNotice h
  | placeSyncq => exact .placeSyncq h
  | resyncWaitExpiry slot =>
    simp only [exec, execResyncWaitExpiry] at h
    split at h
    · cases h
      exact .same (State.sameRest_waitExpiry s _)
    · cases h
  | serviceTimerExpiry agent index => exact .serviceTimerExpiry h
  | sampleEvent levels => exact .sampleEvent h
  | trunkTransmitter => exact .trunkTransmitter h
  | fieldTransmitter => exact .fieldTransmitter h
  | frameTransmitted p v =>
    cases p with
    | trunk =>
      cases h
      exact .trunkTransmitted s v
    | field =>
      cases h
      exact .fieldTransmitted s
  | frameReceived p bytes => exact .frameReceived h
  | readyReceived p count => exact .readyReceived h
  | creditReceived p => exact .creditReceived h
  | quietPhaseEnd p => exact .quietPhaseEnd h
  | readyFill p => exact .readyFill h
  | silenceTimeout p => exact .silenceTimeout h
  | warmReset =>
    cases h
    exact (PartMove.warmReset s).run.trans (.driveRstn _ false)
  | resetEnd v => exact .resetEnd h
  | powerOn v rstn => exact .powerOn h

end Sys2Proof.Machine
end

section
/-! PROOFS. The laws of the ports, the mode, the timing and the filters, kept by every step. -/

namespace Sys2Proof.Machine

open Sys2Proof

/-- A law that every move of the part keeps, whatever commands wait, is kept by every step. -/
theorem keptByStep_of_partMove {L : State → Prop} (hq : ∀ (s : State) (q : List Instr), L s → L { s with pending := q })
    (hkeep : ∀ s t, PartMove s t → L s → L t) : KeptByStep NoOtherLaw L := by
  intro s t _ hL h
  unfold step at h
  split at h
  · cases h
    exact hL
  · exact (partMoves_of_exec h).keeps hkeep (hq s _ hL)

/-! ## The ports -/

/-- What a move of a port does to its transmit queue: nothing, a frame at its tail, or its head gone. -/
theorem LineMove.queue_cases {b : Nat} {l m : Line} (h : LineMove b l m) :
    m.queue = l.queue ∨
      (∃ e : TxEntry, m.queue = l.queue ++ [e] ∧ l.queue.length < b ∧
        (e.restart = true → ∀ x ∈ l.queue, x.restart = false)) ∨
      ∃ e : TxEntry, l.queue = e :: m.queue := by
  cases h with
  | place f r hb hr => exact .inr (.inl ⟨{ frame := f, restart := r }, rfl, hb, hr⟩)
  | headSent e rest hq => exact .inr (.inr ⟨e, hq⟩)
  | finish _ => exact .inl (by simp)
  | relend _ => exact .inl (by simp)
  | take _ => exact .inl rfl
  | begin _ _ _ => exact .inl rfl
  | sent _ => exact .inl rfl
  | stop _ _ => exact .inl rfl
  | receive _ _ => exact .inl rfl
  | up _ _ _ => exact .inl rfl
  | credit _ _ => exact .inl rfl
  | announce _ => exact .inl rfl
  | symbol _ => exact .inl rfl

/-- A bounded queue stays bounded. -/
theorem LineMove.queue_le {b : Nat} {l m : Line} (h : LineMove b l m) (hl : l.queue.length ≤ b) :
    m.queue.length ≤ b := by
  rcases h.queue_cases with hq | ⟨e, hq, hlt, -⟩ | ⟨e, hq⟩
  · rwa [hq]
  · rw [hq, List.length_append]
    exact hlt
  · rw [hq, List.length_cons] at hl
    exact Nat.le_of_succ_le hl

/-- A queue with one marked reply at most keeps one at most: a further one is placed on a queue without any (R145). -/
theorem LineMove.marked_le {b : Nat} {l m : Line} (h : LineMove b l m)
    (hl : (l.queue.filter TxEntry.restart).length ≤ 1) : (m.queue.filter TxEntry.restart).length ≤ 1 := by
  rcases h.queue_cases with hq | ⟨e, hq, -, hr⟩ | ⟨e, hq⟩
  · rwa [hq]
  · rw [hq, List.filter_append]
    cases hm : e.restart with
    | false => simpa [hm] using hl
    | true =>
      have hnil : l.queue.filter TxEntry.restart = [] := by simpa using hr hm
      simp [hnil, hm]
  · rw [hq] at hl
    exact Nat.le_trans ((List.sublist_cons_self e _).filter _).length_le hl

/-- Every move of a port keeps the law of Section 9.1. -/
theorem LineMove.law {b : Nat} {l m : Line} (h : LineMove b l m) (hl : l.Law) : m.Law := by
  obtain ⟨hroom, hsend, hup, hhold, hhead, howed⟩ := hl
  cases h with
  | finish hx =>
    have hne : l.rx ≠ [] := hx.elim id hhold
    have hpos := List.length_pos_iff.2 hne
    refine ⟨?_, by simpa using hsend, by simpa using hup, by simp, by simpa using hhead, fun hs => ?_⟩
    · simp only [Line.finishHead_rx, Line.finishHead_creditGiven, List.length_tail]
      omega
    · rw [Line.finishHead_sending] at hs
      rw [Line.finishHead_creditsOwed_idle l hs]
      exact howed hs
  | take hx => exact ⟨hroom, hsend, hup, fun _ => hx, hhead, howed⟩
  | place f r hb hr => exact ⟨hroom, hsend, hup, hhold, fun _ => by simp, howed⟩
  | begin w hc hw =>
    have hlink : l.link = .up := by
      simp only [Line.canSend, Bool.and_eq_true, decide_eq_true_eq] at hc
      exact hc.1.1
    refine ⟨hroom, Nat.le_trans (Nat.sub_le _ _) hsend, fun hne => absurd hlink hne, hhold, fun hs => hw ?_, nofun⟩
    simpa [Line.begin] using hs
  | sent f => exact ⟨hroom, hsend, fun hne => ⟨(hup hne).1, rfl⟩, hhold, nofun, fun _ => rfl⟩
  | headSent e rest hq => exact ⟨hroom, hsend, fun hne => ⟨(hup hne).1, rfl⟩, hhold, nofun, fun _ => rfl⟩
  | stop hs hq => exact absurd hq (hhead hs)
  | receive f hc =>
    refine ⟨?_, hsend, hup, fun _ => by simp, hhead, howed⟩
    simp only [List.length_append, List.length_singleton]
    omega
  | relend hc =>
    refine ⟨?_, by simpa using hsend, by simpa using hup, by simpa using hhold, by simpa using hhead, fun hs => ?_⟩
    · simp only [Line.lend_rx, Line.lend_creditGiven]
      omega
    · rw [Line.lend_sending] at hs
      rw [Line.lend_creditsOwed_idle _ hs]
      exact howed hs
  | up n hl hn => exact ⟨hroom, hn, fun hne => absurd rfl hne, hhold, hhead, howed⟩
  | credit hl hc => exact ⟨hroom, hc, fun hne => absurd hl hne, hhold, hhead, howed⟩
  | announce hl =>
    have hne : l.link ≠ .up := by simp [hl]
    exact ⟨hroom, hsend, fun _ => hup hne, hhold, hhead, howed⟩
  | symbol i => exact ⟨hroom, hsend, hup, hhold, hhead, howed⟩

/-- The port lends no buffer and holds no frame (R142). -/
def Line.Shut (l : Line) : Prop := l.creditGiven = 0 ∧ l.rx = []

/-- A port that lends no buffer and holds no frame receives none. -/
theorem LineMove.shut {b : Nat} {l m : Line} (h : LineMove b l m) (hl : l.Law) (hs : l.Shut) : m.Shut := by
  obtain ⟨-, -, -, hhold, -, -⟩ := hl
  obtain ⟨hgiven, hrx⟩ := hs
  cases h with
  | finish hx => exact absurd hrx (hx.elim id hhold)
  | take hx => exact absurd hrx hx
  | receive f hc => exact absurd hgiven hc
  | relend hc => exact absurd hgiven hc
  | place _ _ _ _ => exact ⟨hgiven, hrx⟩
  | begin _ _ _ => exact ⟨hgiven, hrx⟩
  | sent _ => exact ⟨hgiven, hrx⟩
  | headSent _ _ _ => exact ⟨hgiven, hrx⟩
  | stop _ _ => exact ⟨hgiven, hrx⟩
  | up _ _ _ => exact ⟨hgiven, hrx⟩
  | credit _ _ => exact ⟨hgiven, hrx⟩
  | announce _ => exact ⟨hgiven, hrx⟩
  | symbol _ => exact ⟨hgiven, hrx⟩

theorem Line.law_enterQuiet (l : Line) {given : Nat} (h : given ≤ 8) : (l.enterQuiet given).Law :=
  ⟨by simpa [Line.enterQuiet] using h, Nat.zero_le _, fun _ => ⟨rfl, rfl⟩, nofun, nofun, fun _ => rfl⟩

theorem Line.law_reset (l : Line) : l.reset.Law := 
  ⟨Nat.zero_le _, Nat.zero_le _, fun _ => ⟨rfl, rfl⟩, nofun, nofun, fun _ => rfl⟩

/-- A port with empty buffers may lend them all (R143). -/
theorem Line.law_lent {l : Line} (h : l.Law) (hrx : l.rx = []) :
    (Line.sendCredits { l with creditGiven := Config.receiveBuffers } Config.receiveBuffers).Law := by
  obtain ⟨-, hsend, hup, hhold, hhead, howed⟩ := h
  refine ⟨?_, by simpa using hsend, by simpa using hup, by simpa using hhold, by simpa using hhead, fun hs => ?_⟩
  · simp [hrx]
  · rw [Line.sendCredits_sending] at hs
    rw [Line.sendCredits_creditsOwed_idle _ _ hs]
    exact howed hs

theorem State.fieldGiven_le (s : State) : s.fieldGiven ≤ 8 := by
  unfold State.fieldGiven
  split <;> decide

theorem State.fieldGiven_standby {s : State} (h : s.mode = .standby) : s.fieldGiven = 0 := by
  simp [State.fieldGiven, h]

/-- What a move does to the trunk transmit queue: nothing, all of it discarded, or a move of the port. -/
theorem PartMove.trunk_queue {s t : State} (h : PartMove s t) :
    t.trunk.queue = s.trunk.queue ∨ t.trunk.queue = [] ∨ LineMove 30 s.trunk t.trunk := by
  cases h with
  | same h => exact .inl (by rw [h.trunk])
  | trunk h => exact .inr (.inr h)
  | trunkQuiet => exact .inr (.inl rfl)
  | warmReset => exact .inr (.inl rfl)
  | powerOnReset => exact .inr (.inl rfl)
  | field => exact .inl rfl
  | fieldQuiet => exact .inl rfl
  | contact => exact .inl rfl
  | timing => exact .inl rfl
  | resume => exact .inl rfl
  | readPins => exact .inl rfl

/-- The same for the field transmit queue. -/
theorem PartMove.field_queue {s t : State} (h : PartMove s t) :
    t.field.queue = s.field.queue ∨ t.field.queue = [] ∨ LineMove 16 s.field t.field := by
  cases h with
  | same h => exact .inl (by rw [h.field])
  | field h => exact .inr (.inr h)
  | fieldQuiet => exact .inr (.inl rfl)
  | warmReset => exact .inr (.inl rfl)
  | powerOnReset => exact .inr (.inl rfl)
  | resume => exact .inl (by simp [State.lendField])
  | trunk => exact .inl rfl
  | trunkQuiet => exact .inl rfl
  | contact => exact .inl rfl
  | timing => exact .inl rfl
  | readPins => exact .inl rfl

theorem PartMove.queueLaw {s t : State} (h : PartMove s t) (hs : s.QueueLaw) : t.QueueLaw := by
  obtain ⟨htrunk, hfield⟩ := hs
  constructor
  · rcases h.trunk_queue with hq | hq | hm
    · rwa [hq]
    · simp [hq]
    · exact hm.queue_le htrunk
  · rcases h.field_queue with hq | hq | hm
    · rwa [hq]
    · simp [hq]
    · exact hm.queue_le hfield

theorem PartMove.restartLaw {s t : State} (h : PartMove s t) (hs : s.RestartLaw) : t.RestartLaw := by
  unfold State.RestartLaw at hs ⊢
  rcases h.trunk_queue with hq | hq | hm
  · rwa [hq]
  · simp [hq]
  · exact hm.marked_le hs

theorem PartMove.portLaw {s t : State} (h : PartMove s t) (hs : s.PortLaw) : t.PortLaw := by
  obtain ⟨htrunk, hfield, hstandby⟩ := hs
  cases h with
  | same h =>
    unfold State.PortLaw
    rw [h.trunk, h.field, h.mode]
    exact ⟨htrunk, hfield, hstandby⟩
  | trunk h => exact ⟨h.law htrunk, hfield, hstandby⟩
  | field h => exact ⟨htrunk, h.law hfield, fun hm => h.shut hfield (hstandby hm)⟩
  | trunkQuiet => exact ⟨s.trunk.law_enterQuiet (Nat.le_refl 8), hfield, hstandby⟩
  | fieldQuiet =>
    exact ⟨htrunk, s.field.law_enterQuiet s.fieldGiven_le, fun hm => ⟨State.fieldGiven_standby hm, rfl⟩⟩
  | contact => exact ⟨htrunk, hfield, hstandby⟩
  | timing => exact ⟨htrunk, hfield, hstandby⟩
  | resume hm =>
    obtain ⟨-, hrx⟩ := hstandby hm
    exact ⟨htrunk, Line.law_lent hfield hrx, nofun⟩
  | readPins => exact ⟨htrunk, hfield, hstandby⟩
  | warmReset => exact ⟨s.trunk.law_reset, s.field.law_reset, fun _ => ⟨rfl, rfl⟩⟩
  | powerOnReset => exact ⟨s.trunk.law_reset, s.field.law_reset, fun _ => ⟨rfl, rfl⟩⟩

/-- Settles O60: every move of a port keeps its law, and places within the bounds of its queue. -/
theorem portsKept : Obligations.PortsKept := by
  refine ⟨?queue, ?restart, ?port⟩
  case queue => exact keptByStep_of_partMove (fun _ _ h => h) fun _ _ => PartMove.queueLaw
  case restart => exact keptByStep_of_partMove (fun _ _ h => h) fun _ _ => PartMove.restartLaw
  case port => exact keptByStep_of_partMove (fun _ _ h => h) fun _ _ => PartMove.portLaw

/-! ## Mode, timing and filters -/

theorem PartMove.retainedLaw {s t : State} (h : PartMove s t) (hs : s.RetainedLaw) : t.RetainedLaw := by
  cases h with
  | same h =>
    unfold State.RetainedLaw
    rw [h.mode, h.retained]
    exact hs
  | resume => exact fun _ => rfl
  | warmReset => exact nofun
  | powerOnReset => exact fun _ => rfl
  | trunk => exact hs
  | field => exact hs
  | trunkQuiet => exact hs
  | fieldQuiet => exact hs
  | contact => exact hs
  | timing => exact hs
  | readPins => exact hs

theorem PartMove.timingLaw {s t : State} (h : PartMove s t) (hs : s.TimingLaw) : t.TimingLaw := by
  cases h with
  | same h =>
    unfold State.TimingLaw
    rw [h.resyncWait, h.resyncTries]
    exact hs
  | timing w t hw ht => exact ⟨hw.1, hw.2, ht.1, ht.2⟩
  | powerOnReset => exact (by unfold State.TimingLaw; decide : State.reset.TimingLaw)
  | resume => exact hs
  | warmReset => exact hs
  | trunk => exact hs
  | field => exact hs
  | trunkQuiet => exact hs
  | fieldQuiet => exact hs
  | contact => exact hs
  | readPins => exact hs

theorem Contact.law_warm (c : Contact) : c.warm.Law := by
  unfold Contact.Law Contact.warm
  split
  · trivial
  · trivial
  · rename_i runLevel run hf
    dsimp only at hf
    split at hf <;> cases hf
    simp
  · rename_i level run hf
    dsimp only at hf
    split at hf <;> cases hf

theorem PartMove.contactLaw {s t : State} (h : PartMove s t) (hs : s.ContactLaw) : t.ContactLaw := by
  cases h with
  | same h =>
    unfold State.ContactLaw
    rw [h.contacts]
    exact hs
  | contact n c hc =>
    intro m
    dsimp only
    rw [Fin.getElem_fin, Vector.getElem_set]
    split
    · exact hc (hs n)
    · exact hs m
  | warmReset =>
    intro m
    simp only [State.warmReset, Fin.getElem_fin, Vector.getElem_map]
    exact Contact.law_warm _
  | powerOnReset =>
    intro m
    simp [State.powerOnReset, State.reset, Contact.Law, Contact.afterPowerOn]
  | timing => exact hs
  | resume => exact hs
  | trunk => exact hs
  | field => exact hs
  | trunkQuiet => exact hs
  | fieldQuiet => exact hs
  | readPins => exact hs

theorem retainedLaw_kept : KeptByStep NoOtherLaw State.RetainedLaw :=
  keptByStep_of_partMove (fun _ _ h => h) fun _ _ => PartMove.retainedLaw

theorem timingLaw_kept : KeptByStep NoOtherLaw State.TimingLaw :=
  keptByStep_of_partMove (fun _ _ h => h) fun _ _ => PartMove.timingLaw

theorem contactLaw_kept : KeptByStep NoOtherLaw State.ContactLaw :=
  keptByStep_of_partMove (fun _ _ h => h) fun _ _ => PartMove.contactLaw

end Sys2Proof.Machine
end

section
/-! PROOFS. Which commands answer a next state (log 2, log 15, log 20), and the queue of waiting commands (log 1). -/

namespace Sys2Proof.Machine

open Sys2Proof

theorem PartMove.pending {s t : State} (h : PartMove s t) : t.pending = s.pending := by
  cases h with
  | same h => exact h.pending
  | _ => rfl

theorem pending_of_exec {c : Instr} {s t : State} (h : exec c s = .next t) : t.pending = s.pending :=
  (partMoves_of_exec h).keeps (L := fun u => u.pending = s.pending) (fun _ _ hm hu => hm.pending.trans hu) rfl

/-- A request row answers a next state, whatever its owning block does. -/
theorem serve_answers (c : ReqCode) (own : AgentId → List Byte → State → State × Reply) (s : State) :
    ∃ t, serve c own s = .next t := by
  unfold serve
  split
  · split
    all_goals exact ⟨_, rfl⟩
  · exact ⟨_, rfl⟩

/-- A command refuses only an operand out of its range, and by its name. -/
theorem exec_answers (c : Instr) (s : State) :
    (c.wellFormed = true → ∃ t, exec c s = .next t) ∧ (c.wellFormed = false → exec c s = .refused .noSuchOperand) := by
  cases Instr.kind c with
  | request r =>
    refine ⟨fun _ => by rw [exec_row]; exact serve_answers r r.own s, fun h => ?_⟩
    cases r <;> cases h
  | resyncWaitExpiry slot =>
    simp only [exec, execResyncWaitExpiry, Instr.wellFormed, decide_eq_true_eq, decide_eq_false_iff_not]
    exact ⟨fun h => by rw [dif_pos h]; exact ⟨_, rfl⟩, fun h => by rw [dif_neg h]⟩
  | serviceTimerExpiry agent index =>
    simp only [exec, execServiceTimerExpiry, Instr.wellFormed, Bool.and_eq_true, decide_eq_true_eq, Bool.and_eq_false_iff,
      decide_eq_false_iff_not]
    refine ⟨fun ⟨hk, hi⟩ => ?_, fun h => ?_⟩
    · rw [dif_pos hk, dif_pos hi]
      split
      · split
        all_goals exact ⟨_, rfl⟩
      · exact ⟨_, rfl⟩
    · split
      · rename_i hk
        rw [dif_neg (h.resolve_left fun h' => h' hk)]
      · rfl
  | readyReceived p count =>
    simp only [exec, execReadyReceived, Instr.wellFormed, decide_eq_true_eq, decide_eq_false_iff_not]
    refine ⟨fun h => ?_, fun h => by rw [if_neg h]⟩
    rw [if_pos h]
    split
    · split
      all_goals exact ⟨_, rfl⟩
    · exact ⟨_, rfl⟩
  | warmReset => exact ⟨fun _ => ⟨_, rfl⟩, nofun⟩
  | frameTransmitted p v =>
    refine ⟨fun _ => ?_, nofun⟩
    cases p with
    | trunk => exact ⟨_, rfl⟩
    | field => exact ⟨_, rfl⟩
  | silenceTimeout p =>
    refine ⟨fun _ => ?_, nofun⟩
    simp only [exec, execSilenceTimeout]
    split
    · cases p with
      | trunk => exact ⟨_, rfl⟩
      | field => exact ⟨_, rfl⟩
    · exact ⟨_, rfl⟩
  | _ =>
    refine ⟨fun _ => ?_, nofun⟩
    simp only [exec, execUndefinedRequestCode, execForeignFrame, execTrunkDataTaken, execTrunkDataPlaced, execEvt,
      execState, execFieldDataTaken, execFieldDataPlaced, execStrayFrame, execMoveNotice, execPlaceSyncq,
      execSampleEvent, execTrunkTransmitter, execFieldTransmitter, execFrameReceived, execCreditReceived,
      execQuietPhaseEnd, execReadyFill, execResetEnd, execPowerOn]
    repeat' split
    all_goals exact ⟨_, rfl⟩

/-- Settles O2: no move of the part touches the queue, and a command refuses its operands only. -/
theorem commandsAnswer : Obligations.CommandsAnswer :=
  ⟨fun _ _ _ h => pending_of_exec h, fun c s h => (exec_answers c s).1 h, fun c s h => (exec_answers c s).2 h⟩

end Sys2Proof.Machine
end

section
/-! PROOFS. STANDBY leaves the tables at rest (R141, R46, R115), and the free slots are filled at every chance (R100). -/

namespace Sys2Proof.Machine

open Sys2Proof

/-! ## At rest -/

/-- IDLE, with no reason set. -/
def Source.AtRest (a : Source) : Prop :=
  a.status = .idle ∧ a.reasons = { edgeOwed := false, latched := false, asserted := false, forced := false }

/-- Every source is at rest and no agent holds a claim. -/
def State.AtRest (s : State) : Prop :=
  (∀ (i : SourceIx) (a : Source), s.source i = some a → a.AtRest) ∧ ∀ k : AgentId, (s.agent k).claims = []

theorem State.standbyLaw_iff (s : State) :
    s.StandbyLaw ↔ (s.mode = .standby → s.AtRest ∧ ∀ j : SlotId, s.slots[j] = none) :=
  ⟨fun h hm => ⟨⟨(h hm).1, (h hm).2.1⟩, (h hm).2.2⟩, fun h hm => ⟨(h hm).1.1, (h hm).1.2, (h hm).2⟩⟩

theorem State.AtRest.of_same {s t : State} (h : s.AtRest) (hs : t.sources = s.sources)
    (hc : ∀ k, (t.agent k).claims = (s.agent k).claims) : t.AtRest :=
  ⟨fun i a ha => h.1 i a (by rw [State.source, hs] at ha; exact ha), fun k => (hc k).trans (h.2 k)⟩

theorem Source.AtRest.settle {a : Source} (h : a.AtRest) : a.settle.AtRest := by
  obtain ⟨hst, hr⟩ := h
  have hact : a.active = false := by
    unfold Source.active
    rw [hr]
    split <;> rfl
  unfold Source.settle
  rw [hst]
  exact ⟨by simp [Source.implied, hact], hr⟩

theorem State.AtRest.setSource {s : State} (h : s.AtRest) (i : SourceIx) {o : Option Source} (ho : ∀ a ∈ o, a.AtRest) :
    (s.setSource i o).AtRest := by
  refine ⟨fun j a ha => ?_, h.2⟩
  rw [State.source_setSource] at ha
  split at ha
  · exact ho a ha
  · exact h.1 j a ha

theorem State.AtRest.reEvaluateAll {s : State} (h : s.AtRest) : s.reEvaluateAll.AtRest := 
  h.of_same rfl s.reEvaluateAll_agent_claims

/-! ## What most commands keep -/

/-- The part is in the same mode with the same field link, the same nodes wait, the same slots are taken; and STANDBY
stays at rest. -/
structure State.WorkKept (s t : State) : Prop where
  mode : t.mode = s.mode
  link : t.field.link = s.field.link
  waitList : t.waitList = s.waitList
  slots : ∀ j : SlotId, (t.slots[j]).isSome = (s.slots[j]).isSome
  rest : s.mode = .standby → s.AtRest → (∀ j : SlotId, s.slots[j] = none) → t.AtRest

section
variable {s t u : State}

theorem State.WorkKept.of_rest (hm : t.mode = s.mode) (hl : t.field.link = s.field.link) (hw : t.waitList = s.waitList)
    (hs : t.slots = s.slots) (hr : s.mode = .standby → s.AtRest → t.AtRest) : s.WorkKept t :=
  ⟨hm, hl, hw, fun j => by rw [hs], fun h ha _ => hr h ha⟩

theorem State.WorkKept.of_same (hm : t.mode = s.mode) (hl : t.field.link = s.field.link) (hw : t.waitList = s.waitList)
    (hs : t.slots = s.slots) (hsrc : t.sources = s.sources) (hc : ∀ k, (t.agent k).claims = (s.agent k).claims) :
    s.WorkKept t := .of_rest hm hl hw hs fun _ ha => ha.of_same hsrc hc

theorem State.WorkKept.refl (s : State) : s.WorkKept s := .of_same rfl rfl rfl rfl rfl fun _ => rfl

theorem State.WorkKept.free (h : s.WorkKept t) (hs : ∀ j : SlotId, s.slots[j] = none) (j : SlotId) :
    t.slots[j] = none := by
  have hj := h.slots j
  rw [hs j] at hj
  simpa using hj

theorem State.WorkKept.trans (h : s.WorkKept t) (h' : t.WorkKept u) : s.WorkKept u where
  mode := h'.mode.trans h.mode
  link := h'.link.trans h.link
  waitList := h'.waitList.trans h.waitList
  slots j := (h'.slots j).trans (h.slots j)
  rest hm ha hs := h'.rest (h.mode.trans hm) (h.rest hm ha hs) (h.free hs)

theorem State.WorkKept.standbyLaw (h : s.WorkKept t) (hs : s.StandbyLaw) : t.StandbyLaw := by
  rw [State.standbyLaw_iff] at hs ⊢
  intro hm
  obtain ⟨ha, hslots⟩ := hs (h.mode ▸ hm)
  exact ⟨h.rest (h.mode ▸ hm) ha hslots, h.free hslots⟩

theorem State.WorkKept.slotsBusyLaw (h : s.WorkKept t) (hs : s.SlotsBusyLaw) : t.SlotsBusyLaw := by
  intro hm hl hw j
  rw [h.slots j]
  exact hs (h.mode ▸ hm) (h.link ▸ hl) (h.waitList ▸ hw) j

end

/-! ## The filling of the slots -/

section
variable (s : State)

theorem State.slotTakes_isSome {j m : SlotId} (h : (s.slots[m]).isSome = true) :
    ((s.slotTakes j).slots[m]).isSome = true := by
  rcases s.slotTakes_cases j with ⟨h', -⟩ | ⟨n, rest, -, -, h'⟩
  · rw [h']
    exact h
  · rw [h']
    dsimp only
    rw [Fin.getElem_fin, Vector.getElem_set]
    split
    · rfl
    · exact h

theorem State.slotTakes_fills {j : SlotId} (h : (s.slotTakes j).waitList ≠ []) :
    s.waitList ≠ [] ∧ ((s.slotTakes j).slots[j]).isSome = true := by
  rcases s.slotTakes_cases j with ⟨h', hs⟩ | ⟨n, rest, -, hw, h'⟩
  · rw [h'] at h ⊢
    exact ⟨h, hs.resolve_right h⟩
  · rw [h', hw]
    exact ⟨List.cons_ne_nil _ _, by simp⟩

theorem State.foldl_slotTakes_isSome (l : List SlotId) {m : SlotId} (h : (s.slots[m]).isSome = true) :
    ((l.foldl State.slotTakes s).slots[m]).isSome = true := by
  induction l generalizing s with
  | nil => exact h
  | cons j l ih => exact ih _ (s.slotTakes_isSome h)

/-- Slots that were offered a node are taken, or no node waits. -/
theorem State.foldl_slotTakes_fills (l : List SlotId) (h : (l.foldl State.slotTakes s).waitList ≠ []) :
    s.waitList ≠ [] ∧ ∀ j ∈ l, ((l.foldl State.slotTakes s).slots[j]).isSome = true := by
  induction l generalizing s with
  | nil => exact ⟨h, nofun⟩
  | cons j l ih =>
    obtain ⟨hw, hl⟩ := ih (s.slotTakes j) h
    obtain ⟨hw', hj⟩ := s.slotTakes_fills hw
    refine ⟨hw', fun m hm => ?_⟩
    rcases List.mem_cons.1 hm with rfl | hm
    · exact State.foldl_slotTakes_isSome _ l hj
    · exact hl m hm

theorem State.slotsBusyLaw_fillSlots : s.fillSlots.SlotsBusyLaw := by
  intro hm hl hw j
  rw [State.fillSlots_mode] at hm
  rw [State.fillSlots_field] at hl
  unfold State.fillSlots at hw ⊢
  rw [if_pos ⟨hm, hl⟩] at hw ⊢
  exact (s.foldl_slotTakes_fills _ hw).2 j (List.mem_finRange j)

theorem State.fillSlots_standby {s : State} (h : s.mode = .standby) : s.fillSlots = s := by
  unfold State.fillSlots
  rw [if_neg (by simp [h])]

theorem State.StandbyLaw.fillSlots {s : State} (h : s.StandbyLaw) : s.fillSlots.StandbyLaw := by
  intro hm
  rw [State.fillSlots_mode] at hm
  rw [State.fillSlots_standby hm]
  exact h hm

end

/-- No law of STANDBY concerns RUN. -/
theorem State.standbyLaw_run {s : State} (h : s.mode = .run) : s.StandbyLaw := fun hm => by simp [h] at hm

/-! ## The requests -/

/-- The acts that fill the slots or change the mode, and so can do more. -/
def ReqCode.fills (c : ReqCode) : Bool := decide (c = .putNode ∨ c = .dropNode ∨ c = .resume)

/-- The other acts leave the wait list, the slots, the mode and the field port alone. -/
theorem Acted.queues {s : State} {k : AgentId} {c : ReqCode} {p : State × Reply} (h : Acted s k c p) (hf : c.fills = false) :
    p.1.waitList = s.waitList ∧ p.1.slots = s.slots := by
  cases h with
  | lossSource => cases hf
  | create => cases hf
  | dropNode => cases hf
  | resume => cases hf
  | _ => simp

theorem Acted.mode_field {s : State} {k : AgentId} {c : ReqCode} {p : State × Reply} (h : Acted s k c p)
    (hf : c.fills = false) : p.1.mode = s.mode ∧ p.1.field = s.field := by
  cases h with
  | lossSource => cases hf
  | create => cases hf
  | dropNode => cases hf
  | resume => cases hf
  | _ => simp

/-! ### At rest through the requests STANDBY allows -/

section
variable {s : State}

theorem State.AtRest.source (h : s.AtRest) {i : SourceIx} {a : Source} (ha : s.source i = some a) : a.AtRest := h.1 i a ha

theorem State.AtRest.modAgent (h : s.AtRest) (k : AgentId) (f : Agent → Agent) (hf : (f (s.agent k)).claims = []) :
    (s.modAgent k f).AtRest := by
  refine ⟨fun i a ha => h.1 i a ha, fun j => ?_⟩
  rw [State.agent_modAgent]
  split
  · exact hf
  · exact h.2 j

/-- The end of a session that holds no claim touches no source. -/
theorem State.AtRest.endSession (h : s.AtRest) (k : AgentId) : (s.endSession k).AtRest := by
  have hu : (s.modAgent k Agent.detach).AtRest := h.modAgent k _ rfl
  unfold State.endSession
  rw [h.2 k]
  dsimp only [List.foldl_nil]
  split
  · exact hu.of_same rfl fun _ => rfl
  · exact hu

theorem State.AtRest.changeSource (h : s.AtRest) (i : SourceIx) (f : Source → Source)
    (hf : ∀ a : Source, a.AtRest → (f a).AtRest) : (s.changeSource i f).AtRest := by
  refine ⟨fun j a ha => ?_, fun k => by rw [State.changeSource_agent_claims]; exact h.2 k⟩
  rw [State.source_changeSource] at ha
  split at ha
  · obtain ⟨b, hb, rfl⟩ := Option.map_eq_some_iff.1 ha
    exact hf b (h.source hb)
  · exact h.source ha

theorem Source.AtRest.release {a : Source} (h : a.AtRest) : (a.setForced false).AtRest :=
  Source.AtRest.settle ⟨h.1, by rw [h.2]⟩

theorem Source.AtRest.update {a : Source} (h : a.AtRest) (g : SourceConfig) : (a.update g).AtRest := by
  unfold Source.update
  split
  · exact h
  · exact Source.AtRest.settle h

/-- A source loaded in STANDBY begins at rest: no contact asserts it (R7). -/
theorem State.atRest_newSource (hm : s.mode = .standby) (g : SourceConfig) (r : Node) : (s.newSource g r).AtRest := by
  have hl : s.firstLevel g = false := by simp [State.firstLevel, hm]
  unfold State.newSource
  rw [hl]
  exact Source.AtRest.settle ⟨rfl, rfl⟩

theorem State.AtRest.setBlocked (h : s.AtRest) {i : SourceIx} {a : Source} (ha : s.source i = some a) (b : Bool) :
    (s.setBlocked i b a).AtRest := by
  have ht := h.setSource i (o := some { a with config := { a.config with blocked := b } })
    fun x hx => by cases hx; exact ⟨(h.source ha).1, (h.source ha).2⟩
  unfold State.setBlocked
  dsimp only
  split
  · exact ht
  · exact ht.reEvaluateAll

/-- A source at rest has no claim to withdraw. -/
theorem State.AtRest.dropSource (h : s.AtRest) {i : SourceIx} {a : Source} (ha : s.source i = some a) :
    ((((s.setSource i none).unpromote i).withdraw i a).reEvaluateAll).AtRest := by
  have hidle : a.status = .idle := (h.source ha).1
  have hw : ((s.setSource i none).unpromote i).withdraw i a = (s.setSource i none).unpromote i := by
    simp [State.withdraw, hidle]
  rw [hw]
  exact ((h.setSource i (o := none) (by simp)).of_same (t := (s.setSource i none).unpromote i) rfl fun _ => rfl).reEvaluateAll

/-- A JOIN begins with no claim. -/
theorem State.AtRest.join (h : s.AtRest) (k : AgentId) (a : JoinArgs) :
    ((({ s with role := s.roleAfterJoin k a } : State).setAgent k (Agent.joined a)).reEvaluate k).AtRest := by
  refine ⟨fun i b hb => h.1 i b hb, fun j => ?_⟩
  rw [State.reEvaluate_agent_claims, State.agent_setAgent]
  split
  · rfl
  · exact h.2 j

theorem State.AtRest.setPromotion (h : s.AtRest) (p : PromoSlot) (o : Option SourceIx) :
    (s.setPromotion p o).reEvaluateAll.AtRest := (h.of_same (t := s.setPromotion p o) rfl fun _ => rfl).reEvaluateAll

/-- An input's record changes and no more in STANDBY (R119). -/
theorem State.AtRest.changeContact (h : s.AtRest) (hm : s.mode = .standby) (n : Channel) (c : Contact) :
    (s.changeContact n c).AtRest := by
  unfold State.changeContact State.contactReport
  dsimp only
  rw [hm]
  exact h.of_same rfl fun _ => rfl

end

/-- A request that STANDBY allows, and that does not end it, leaves the tables at rest. -/
theorem Acted.atRest {s : State} {k : AgentId} {c : ReqCode} {p : State × Reply} (hp : Acted s k c p) (hf : c.fills = false)
    (hrun : c.needsMode ≠ some .run) (hm : s.mode = .standby) (h : s.AtRest) : p.1.AtRest := by
  cases hp with
  | refused _ => exact h
  | reported _ => exact h
  | join a _ _ => exact h.join k a
  | leave _ => exact h.endSession k
  | setMask m _ =>
    refine (h.modAgent k (fun a => { a with mask := m }) (h.2 k)).of_same rfl fun j => ?_
    rw [State.reEvaluate_agent_claims]
  | claim => exact absurd rfl hrun
  | done => exact absurd rfl hrun
  | force => exact absurd rfl hrun
  | putPromotion p i _ _ _ _ _ _ => exact h.setPromotion p _
  | clearPromotion p _ => exact h.setPromotion p _
  | load i g r _ _ _ _ _ _ =>
    exact (h.setSource i fun b hb => by cases hb; exact State.atRest_newSource hm g r).reEvaluateAll
  | update i g a _ ha _ _ _ _ _ _ =>
    exact (h.setSource i fun b hb => by cases hb; exact (h.source ha).update g).reEvaluateAll
  | dropSource i a _ ha => exact h.dropSource ha
  | block i a _ ha => exact h.setBlocked ha true
  | unblock i a _ ha => exact h.setBlocked ha false
  | release i _ => exact h.changeSource i (Source.setForced false) fun _ => Source.AtRest.release
  | lossSource => cases hf
  | create => cases hf
  | dropNode => cases hf
  | clearCounts _ _ _ _ => exact h.of_same rfl fun _ => rfl
  | setContact a _ => exact h.changeContact hm _ _
  | setTiming _ _ _ _ _ => exact h.of_same rfl fun _ => rfl
  | clearCounters _ => exact h.of_same rfl fun _ => rfl
  | resume => cases hf
  | restart _ => exact h

theorem Acted.workKept {s : State} {k : AgentId} {c : ReqCode} {p : State × Reply} (h : Acted s k c p) (hf : c.fills = false)
    (hmode : ∀ m, c.needsMode = some m → s.mode = m) : s.WorkKept p.1 := by
  obtain ⟨hm, hl⟩ := h.mode_field hf
  obtain ⟨hw, hs⟩ := h.queues hf
  refine .of_rest hm (by rw [hl]) hw hs fun hm ha => h.atRest hf (fun hc => ?_) hm ha
  exact absurd (hm.symm.trans (hmode _ hc)) nofun

/-! ## The laws of STANDBY and of the slots, over the commands -/

/-- The law of STANDBY holds if it held in the state `o`, and so does the law of the slots. -/
def State.WorkFrom (s o : State) : Prop := (o.StandbyLaw → s.StandbyLaw) ∧ (o.SlotsBusyLaw → s.SlotsBusyLaw)

theorem State.WorkFrom.refl (o : State) : o.WorkFrom o := ⟨id, id⟩

section
variable {o s t : State}

theorem State.WorkKept.workFrom (h : s.WorkKept t) (hs : s.WorkFrom o) : t.WorkFrom o :=
  ⟨fun ho => h.standbyLaw (hs.1 ho), fun ho => h.slotsBusyLaw (hs.2 ho)⟩

/-- A state that ends with the filling of its slots, the law of STANDBY given. -/
theorem State.workFrom_fillSlots (h : o.StandbyLaw → s.StandbyLaw) : s.fillSlots.WorkFrom o :=
  ⟨fun ho => (h ho).fillSlots, fun _ => s.slotsBusyLaw_fillSlots⟩

/-- In STANDBY the law of the slots asks nothing. -/
theorem State.workFrom_standby (hm : s.mode = .standby) (hr : s.AtRest) (hs : ∀ j : SlotId, s.slots[j] = none) :
    s.WorkFrom o := ⟨fun _ => s.standbyLaw_iff.2 fun _ => ⟨hr, hs⟩, fun _ hm' => by simp [hm] at hm'⟩

theorem State.workKept_answer (s : State) (f : Frame) (r : Reply) : s.WorkKept (s.answer f r) :=
  .of_same rfl rfl rfl rfl rfl fun _ => rfl

theorem State.releaseNode_free (s : State) (n : NodeId) (hs : ∀ j : SlotId, s.slots[j] = none) (j : SlotId) :
    (s.releaseNode n).slots[j] = none := by
  have hj : s.slots[j.val] = none := hs j
  simp [State.releaseNode, hj]

/-- PUT-NODE and DROP-NODE fill the slots at their end; RESUME ends STANDBY and fills them (R109, R110, R143). -/
theorem Acted.workFrom {k : AgentId} {c : ReqCode} {p : State × Reply} (h : Acted s k c p)
    (hmode : ∀ m, c.needsMode = some m → s.mode = m) (hs : s.WorkFrom o) : p.1.WorkFrom o := by
  by_cases hf : c.fills = false
  · exact (h.workKept hf hmode).workFrom hs
  · cases h with
    | refused _ => exact hs
    | reported _ => exact hs
    | lossSource n o r _ _ =>
      exact (State.WorkKept.of_same (s := s) (t := s.setNode n _) rfl rfl rfl rfl rfl fun _ => rfl).workFrom hs
    | create n o _ _ => exact State.workFrom_fillSlots (s := (s.setNode n (some (Node.created o))).enqueue n) hs.1
    | dropNode n _ _ _ =>
      refine State.workFrom_fillSlots (s := (s.releaseNode n).setNode n none) fun ho => ?_
      rw [State.standbyLaw_iff]
      intro hm
      obtain ⟨ha, hslots⟩ := s.standbyLaw_iff.1 (hs.1 ho) hm
      exact ⟨ha.of_same rfl fun _ => rfl, s.releaseNode_free n hslots⟩
    | resume _ =>
      dsimp only
      exact State.workFrom_fillSlots fun _ => State.standbyLaw_run (by simp)
    | _ => exact absurd rfl hf

theorem workFrom_request {c : ReqCode} (h : exec c.row s = .next t) (hs : s.WorkFrom o) : t.WorkFrom o := by
  rw [exec_row] at h
  rcases serve_next h with rfl | ⟨f, k, -, -, ⟨st, rfl⟩ | ⟨hk, rfl⟩⟩
  · exact hs
  · exact (s.workKept_answer f _).workFrom hs
  · exact (State.workKept_answer _ f _).workFrom ((c.acted k _ s).workFrom ((s.commonCheck_none c k _).1 hk).2.2.2 hs)

/-! ### The node table and the timers -/

/-- A new phase leaves the slot taken. -/
theorem State.isSome_set_slot {j : SlotId} {e : Slot} (he : s.slots[j] = some e) (e' : Slot) (m : SlotId) :
    ((s.slots.set j (some e'))[m]).isSome = (s.slots[m]).isSome := by
  rw [Fin.getElem_fin, Vector.getElem_set]
  split
  · rename_i hjm
    obtain rfl : j = m := Fin.ext hjm
    rw [he]
    rfl
  · rfl

theorem State.WorkKept.of_run (hrun : s.mode = .run) (hm : t.mode = s.mode) (hl : t.field = s.field)
    (hw : t.waitList = s.waitList) (hs : ∀ j : SlotId, (t.slots[j]).isSome = (s.slots[j]).isSome) : s.WorkKept t :=
  ⟨hm, by rw [hl], hw, hs, fun h => by simp [hrun] at h⟩

theorem State.workFrom_takeEvt (hm : s.mode = .run) (hs : s.WorkFrom o) (n : NodeId) (r : Node) (c : Channel) (t : Transition)
    (q : Byte) : (s.takeEvt n r c t q).WorkFrom o := by
  unfold State.takeEvt
  dsimp only
  have hkept : s.WorkKept (((if r.gapIn q then s.modNode n fun x => { x with gaps := satSucc x.gaps } else
      s).nodeTransition n c t).modNode n fun x => { x with expected := q + 1#8 }) := by
    refine .of_run hm ?_ ?_ ?_ fun j => ?_ <;> split <;> simp
  have hmode := hkept.mode.trans hm
  generalize ((if r.gapIn q then s.modNode n fun x => { x with gaps := satSucc x.gaps } else
      s).nodeTransition n c t).modNode n (fun x => { x with expected := q + 1#8 }) = u at hkept hmode ⊢
  split
  · split
    · exact hkept.workFrom hs
    · exact State.workFrom_fillSlots (fun _ => State.standbyLaw_run hmode)
  · exact hkept.workFrom hs
  · exact hkept.workFrom hs
  · exact State.workFrom_fillSlots (fun _ => State.standbyLaw_run hmode)

theorem State.workFrom_takeState (hm : s.mode = .run) (n : NodeId) (r : Node) (levels : BitVec 16) (q : Byte) :
    (s.takeState n r levels q).WorkFrom o := by
  unfold State.takeState
  dsimp only
  refine State.workFrom_fillSlots fun _ => State.standbyLaw_run ?_
  split <;> simp [hm]

theorem State.workKept_finishField (s : State) : s.WorkKept s.finishField :=
  .of_same rfl s.field.finishHead_link rfl rfl rfl fun _ => rfl

theorem State.workKept_dropStray (s : State) : s.WorkKept s.dropStray :=
  .of_same rfl s.field.finishHead_link rfl rfl rfl fun _ => rfl

theorem workFrom_evt (h : execEvt s = .next t) (hs : s.WorkFrom o) : t.WorkFrom o := by
  have hstray := s.workKept_dropStray.workFrom hs
  have hfield := s.workKept_finishField.workFrom hs
  unfold execEvt at h
  split at h
  · cases h
    exact hs
  · rename_i hf
    split at h
    · split at h
      · cases h
        exact State.workFrom_takeEvt (s := s.finishField) (State.fieldHead_some hf).1 hfield _ _ _ _ _
      · cases h
        exact hstray
    all_goals
      cases h
      exact hstray

theorem workFrom_state (h : execState s = .next t) (hs : s.WorkFrom o) : t.WorkFrom o := by
  have hstray := s.workKept_dropStray.workFrom hs
  unfold execState at h
  split at h
  · cases h
    exact hs
  · rename_i hf
    split at h
    · split at h
      · cases h
        exact State.workFrom_takeState (s := s.finishField) (State.fieldHead_some hf).1 _ _ _ _
      · cases h
        exact hstray
    all_goals
      cases h
      exact hstray

theorem State.workKept_setSlot {j : SlotId} {e : Slot} (he : s.slots[j] = some e) (e' : Slot) :
    s.WorkKept { s with slots := s.slots.set j (some e') } :=
  ⟨rfl, rfl, rfl, State.isSome_set_slot he e', fun _ ha _ => ha.of_same rfl fun _ => rfl⟩

theorem State.workFrom_waitExpiry (hs : s.WorkFrom o) (j : SlotId) : (s.waitExpiry j).WorkFrom o := by
  unfold State.waitExpiry
  split
  · exact hs
  · rename_i e he
    have hrun : o.StandbyLaw → s.mode = .run := fun ho => by
      cases hm : s.mode with
      | run => rfl
      | standby => simp [(s.standbyLaw_iff.1 (hs.1 ho) hm).2 j] at he
    split
    · split
      · exact (State.workKept_setSlot he _).workFrom hs
      · unfold State.nodeLost
        dsimp only
        refine State.workFrom_fillSlots fun ho => State.standbyLaw_run ?_
        split <;> simp [hrun ho]
    all_goals exact hs

theorem State.workKept_queryTransmitted (s : State) (dest : Byte) : s.WorkKept (s.queryTransmitted dest) := by
  unfold State.queryTransmitted
  split
  · exact .refl s
  · rename_i j _
    split
    · exact .refl s
    · rename_i e he
      exact ⟨rfl, rfl, rfl, State.isSome_set_slot he _, fun _ ha _ => ha.of_same rfl fun _ => rfl⟩

theorem State.workKept_expire {k : AgentId} {i : SourceIx} {c : Claim} (h : (s.agent k).claimOn i = some c) :
    s.WorkKept (s.expire k c) := by
  refine .of_rest (by simp) (by simp) (by simp) (by simp) fun _ ha => ?_
  have hn := (Agent.claimOn_some _ i c h).1
  rw [ha.2 k] at hn
  cases hn

theorem workKept_placeSyncq (h : execPlaceSyncq s = .next t) : s.WorkKept t := by
  unfold execPlaceSyncq at h
  split at h
  · split at h
    · cases h
      exact .refl s
    · rename_i j _
      split at h
      · cases h
        exact .refl s
      · rename_i e he
        cases h
        exact ⟨rfl, rfl, rfl, State.isSome_set_slot he _, fun _ ha _ => ha.of_same rfl fun _ => rfl⟩
  · cases h
    exact .refl s

theorem workKept_serviceTimerExpiry {agent index : Nat} (h : execServiceTimerExpiry agent index s = .next t) :
    s.WorkKept t := by
  unfold execServiceTimerExpiry at h
  split at h
  · split at h
    · split at h
      · rename_i c hc
        split at h
        · cases h
          exact State.workKept_expire hc
        · cases h
          exact .refl s
      · cases h
        exact .refl s
    · cases h
  · cases h

/-! ### The frames, the notices and the contacts -/

theorem workKept_undefinedRequestCode (h : execUndefinedRequestCode s = .next t) : s.WorkKept t := by
  unfold execUndefinedRequestCode at h
  split at h
  · split at h
    · cases h
      exact .refl s
    · cases h
      exact s.workKept_answer _ _
  · cases h
    exact .refl s

theorem State.workKept_finishTrunk (s : State) : s.WorkKept s.finishTrunk := .of_same rfl rfl rfl rfl rfl fun _ => rfl

theorem State.workKept_count (s : State) (f : Counters → Counters) : s.WorkKept (s.count f) :=
  .of_same rfl rfl rfl rfl rfl fun _ => rfl

theorem workKept_foreignFrame (h : execForeignFrame s = .next t) : s.WorkKept t := by
  unfold execForeignFrame at h
  split at h
  · split at h
    · cases h
      exact s.workKept_finishTrunk.trans (State.workKept_count _ _)
    all_goals
      cases h
      exact .refl s
  · cases h
    exact .refl s

theorem workKept_trunkDataTaken (h : execTrunkDataTaken s = .next t) : s.WorkKept t := by
  unfold execTrunkDataTaken at h
  split at h
  · split at h
    · split at h
      · cases h
        exact .of_same rfl rfl rfl rfl rfl fun _ => rfl
      · cases h
        exact s.workKept_finishTrunk.trans (State.workKept_count _ _)
    all_goals
      cases h
      exact .refl s
  · cases h
    exact .refl s

theorem workKept_trunkDataPlaced (h : execTrunkDataPlaced s = .next t) : s.WorkKept t := by
  unfold execTrunkDataPlaced at h
  split at h
  · split at h
    · cases h
      exact .of_same rfl rfl rfl rfl rfl fun _ => rfl
    · cases h
      exact .refl s
  · cases h
    exact .refl s

theorem workKept_fieldDataTaken (h : execFieldDataTaken s = .next t) : s.WorkKept t := by
  unfold execFieldDataTaken at h
  split at h
  · cases h
    exact .refl s
  · split at h
    · cases h
      exact s.workKept_dropStray
    · split at h
      · cases h
        exact .of_same rfl rfl rfl rfl rfl fun _ => rfl
      · cases h
        exact s.workKept_finishField.trans (State.workKept_count _ _)

theorem workKept_fieldDataPlaced (h : execFieldDataPlaced s = .next t) : s.WorkKept t := by
  unfold execFieldDataPlaced at h
  split at h
  · split at h
    · cases h
      exact .of_same rfl s.field.finishHead_link rfl rfl rfl fun _ => rfl
    · cases h
      exact .refl s
  · cases h
    exact .refl s

theorem workKept_strayFrame (h : execStrayFrame s = .next t) : s.WorkKept t := by
  unfold execStrayFrame at h
  split at h
  · split at h
    · cases h
      exact .refl s
    · split at h
      · cases h
        exact .refl s
      · cases h
        exact s.workKept_dropStray
  · cases h
    exact .refl s

theorem workKept_fieldTransmitter (h : execFieldTransmitter s = .next t) : s.WorkKept t := by
  unfold execFieldTransmitter at h
  split at h
  · cases h
    exact .of_same rfl rfl rfl rfl rfl fun _ => rfl
  · cases h
    exact .refl s

theorem workKept_moveNotice (h : execMoveNotice s = .next t) : s.WorkKept t := by
  unfold execMoveNotice at h
  split at h
  · split at h
    · cases h
      exact .refl s
    · split at h
      · cases h
        exact .refl s
      · cases h
        refine .of_same rfl rfl rfl rfl rfl fun j => ?_
        rw [State.agent_modAgent]
        split
        · rename_i hj
          rw [← hj]
          rfl
        · rfl
  · cases h
    exact .refl s

theorem State.workKept_changeContact (s : State) (n : Channel) (c : Contact) : s.WorkKept (s.changeContact n c) := by
  refine .of_rest (by simp) (by simp) (by simp) (by simp) fun hm ha => ?_
  unfold State.changeContact State.contactReport
  dsimp only
  rw [hm]
  exact ha.of_same rfl fun _ => rfl

theorem State.workKept_sampleInputs (l : List Channel) (s : State) : s.WorkKept (l.foldl State.sampleInput s) := by
  induction l generalizing s with
  | nil => exact .refl s
  | cons n l ih => exact (s.workKept_changeContact n _).trans (ih _)

theorem workKept_sampleEvent {levels : BitVec 16} (h : execSampleEvent levels s = .next t) : s.WorkKept t := by
  unfold execSampleEvent at h
  split at h
  · cases h
    have hpins : s.WorkKept { s with pins := { s.pins with cin := levels } } := .of_same rfl rfl rfl rfl rfl fun _ => rfl
    exact hpins.trans (State.workKept_sampleInputs _ _)
  · cases h
    exact .refl s

theorem State.workKept_serveAlerts (l : List AgentId) (s : State) : s.WorkKept (s.serveAlerts l).1 := by
  have hserved : ∀ (s : State) (k : AgentId) (f : Agent → Agent), (f (s.agent k)).claims = (s.agent k).claims →
      s.WorkKept (s.modAgent k f) := fun s k f hf => .of_same rfl rfl rfl rfl rfl fun j => by
    rw [State.agent_modAgent]
    split
    · rename_i hj
      rw [hf, hj]
    · rfl
  induction l generalizing s with
  | nil => exact .refl s
  | cons k l ih =>
    rw [State.serveAlerts_cons]
    split
    · split
      · exact (hserved s k (fun a => { a with alert := false }) rfl).trans (ih _)
      · exact hserved s k (fun a => { a with alert := false, lastSent := s.attention k }) rfl
    · exact ih s

theorem workKept_trunkTransmitter (h : execTrunkTransmitter s = .next t) : s.WorkKept t := by
  have hs := State.workKept_serveAlerts (List.finRange 4) s
  unfold execTrunkTransmitter at h
  split at h
  · split at h
    · rename_i u f hu
      rw [hu] at hs
      cases h
      exact hs.trans (.of_same rfl rfl rfl rfl rfl fun _ => rfl)
    · rename_i u hu
      rw [hu] at hs
      split at h
      · cases h
        exact hs
      · cases h
        exact hs.trans (.of_same rfl rfl rfl rfl rfl fun _ => rfl)
  · cases h
    exact .refl s

/-! ### The resets and the ports -/

theorem State.workFrom_warmReset (s : State) : s.warmReset.WorkFrom o := by
  refine State.workFrom_standby rfl ⟨fun i a ha => ?_, fun k => ?_⟩ fun j => by simp [State.warmReset]
  · have hi : s.warmReset.source i = (s.source i).map Source.warm := by
      simp [State.warmReset, State.source]
    rw [hi] at ha
    obtain ⟨b, -, rfl⟩ := Option.map_eq_some_iff.1 ha
    exact ⟨rfl, rfl⟩
  · simp [State.warmReset, State.agent, Agent.afterReset]

theorem State.workFrom_powerOnReset (s : State) : s.powerOnReset.WorkFrom o := by
  refine State.workFrom_standby rfl ⟨fun i a ha => ?_, fun k => ?_⟩ fun j => by simp [State.powerOnReset, State.reset]
  · simp [State.powerOnReset, State.reset, State.source] at ha
  · simp [State.powerOnReset, State.reset, State.agent, Agent.afterReset]

/-- The laws stand when the tables are the same and the field link is not newly UP. -/
theorem State.WorkFrom.of_link (hs : s.WorkFrom o) (hm : t.mode = s.mode) (hl : t.field.link = .up → s.field.link = .up)
    (hw : t.waitList = s.waitList) (hslots : t.slots = s.slots) (hsrc : t.sources = s.sources)
    (ha : t.agents = s.agents) : t.WorkFrom o := by
  constructor
  · rw [t.standbyLaw_iff]
    intro ho hm'
    obtain ⟨hr, hf⟩ := s.standbyLaw_iff.1 (hs.1 ho) (hm ▸ hm')
    exact ⟨hr.of_same hsrc fun k => by rw [State.agent, ha]; rfl, fun j => by rw [hslots]; exact hf j⟩
  · intro ho hrun hup hne j
    rw [hslots]
    exact hs.2 ho (hm ▸ hrun) (hl hup) (hw ▸ hne) j

theorem Line.leaveDown_up {l : Line} {given : Nat} (h : (l.leaveDown given).link = .up) : l.link = .up := by
  unfold Line.leaveDown at h
  split at h
  · cases h
  · exact h

theorem State.WorkFrom.endReset (hs : s.WorkFrom o) (v : BitVec 3) : (s.endReset v).WorkFrom o :=
  hs.of_link rfl Line.leaveDown_up rfl rfl rfl rfl

theorem State.WorkFrom.driveRstn (hs : s.WorkFrom o) (b : Bool) : (s.driveRstn b).WorkFrom o := hs.of_link rfl id rfl rfl rfl rfl

theorem State.WorkFrom.trunkTransmitted (hs : s.WorkFrom o) (v : BitVec 3) : (s.trunkTransmitted v).WorkFrom o := by
  unfold State.trunkTransmitted
  split
  · exact hs
  · exact hs.of_link rfl id rfl rfl rfl rfl
  · exact hs.of_link rfl id rfl rfl rfl rfl
  · dsimp only
    split
    · exact (State.workFrom_warmReset _).endReset v
    · exact hs.of_link rfl id rfl rfl rfl rfl

theorem State.workKept_fieldTransmitted (s : State) : s.WorkKept s.fieldTransmitted := by
  unfold State.fieldTransmitted
  split
  · exact .refl s
  · exact .of_same rfl rfl rfl rfl rfl fun _ => rfl
  · exact .of_same rfl rfl rfl rfl rfl fun _ => rfl
  · rename_i e rest _ _
    have hsent : s.WorkKept { s with field := s.field.headSent e rest } := .of_same rfl rfl rfl rfl rfl fun _ => rfl
    dsimp only
    split
    · exact hsent.trans (State.workKept_queryTransmitted _ _)
    · exact hsent

theorem State.WorkFrom.setLine (hs : s.WorkFrom o) {p : PortId} {l : Line} (hl : l.link = .up → (s.line p).link = .up) :
    (s.setLine p l).WorkFrom o := by
  cases p with
  | trunk => exact hs.of_link rfl id rfl rfl rfl rfl
  | field => exact hs.of_link rfl hl rfl rfl rfl rfl

theorem State.WorkFrom.count (hs : s.WorkFrom o) (f : Counters → Counters) : (s.count f).WorkFrom o :=
  hs.of_link rfl id rfl rfl rfl rfl

theorem workFrom_frameReceived {p : PortId} {bytes : List Byte} (h : execFrameReceived p bytes s = .next t)
    (hs : s.WorkFrom o) : t.WorkFrom o := by
  unfold execFrameReceived at h
  dsimp only at h
  split at h
  · split at h
    · cases h
      exact hs.count _
    · split at h
      · cases h
        exact hs.setLine id
      · cases h
        exact (hs.setLine (by simp)).count _
  · cases h
    exact hs

theorem workFrom_readyReceived {p : PortId} {count : Nat} (h : execReadyReceived p count s = .next t) (hs : s.WorkFrom o) :
    t.WorkFrom o := by
  unfold execReadyReceived at h
  split at h
  · split at h
    · cases p with
      | trunk =>
        cases h
        exact hs.of_link rfl id rfl rfl rfl rfl
      | field =>
        cases h
        refine State.workFrom_fillSlots ?_
        have hn : (({ s with field := { s.field with link := .up, sendCredit := count } } : State).notifyFlagged
            .fieldUp).mode = s.mode := rfl
        intro ho
        rw [State.standbyLaw_iff]
        intro hm
        obtain ⟨ha, hslots⟩ := s.standbyLaw_iff.1 (hs.1 ho) hm
        exact ⟨ha.of_same rfl fun k => by rw [State.notifyFlagged_agent_claims]; rfl, hslots⟩
    · cases h
      exact hs
  · cases h

theorem State.workKept_endSessions (s : State) : s.WorkKept s.endSessions := by
  have hall : ∀ (l : List AgentId) (s : State), s.WorkKept (l.foldl State.endIfAttached s) := by
    intro l
    induction l with
    | nil => exact .refl
    | cons k l ih =>
      intro s
      refine State.WorkKept.trans ?_ (ih _)
      unfold State.endIfAttached
      split
      · exact .of_rest (by simp) (by simp) (by simp) (by simp) fun _ ha => ha.endSession k
      · exact .refl s
  exact hall _ s

theorem State.workKept_trunkLinkDown (s : State) : s.WorkKept s.trunkLinkDown := by
  have hq : s.WorkKept ({ s with trunk := s.trunk.enterQuiet Config.receiveBuffers }.count
    (Counters.addFlushed s.trunk.queue.length)) := .of_same rfl rfl rfl rfl rfl fun _ => rfl
  have he := hq.trans (State.workKept_endSessions _)
  unfold State.trunkLinkDown
  dsimp only
  split
  · exact (he.trans (State.workKept_finishField _)).trans (State.workKept_count _ _)
  · exact he

/-- Field link-down touches no more of a source than its uncertain flag (R112). -/
theorem State.source_fieldNodesDown_some {i : SourceIx} {a : Source} (h : s.fieldNodesDown.source i = some a) :
    ∃ b, s.source i = some b ∧ a.status = b.status ∧ a.reasons = b.reasons := by
  rw [State.source_fieldNodesDown] at h
  obtain ⟨b, hb, rfl⟩ := Option.map_eq_some_iff.1 h
  refine ⟨b, hb, ?_⟩
  split <;> exact ⟨rfl, rfl⟩

/-- A field port that is not UP asks nothing of the slots, and they are all free (R112). -/
theorem State.workFrom_fieldNodesDown (hs : s.WorkFrom o) (hl : s.field.link ≠ .up) (n : Notice) :
    (s.fieldNodesDown.notifyFlagged n).WorkFrom o := by
  refine ⟨fun ho => ?_, fun _ _ hup => absurd hup hl⟩
  rw [State.standbyLaw_iff]
  intro hm
  obtain ⟨ha, -⟩ := s.standbyLaw_iff.1 (hs.1 ho) hm
  refine ⟨⟨fun i a hi => ?_, fun k => ?_⟩, fun j => by simp [State.fieldNodesDown]⟩
  · rw [State.notifyFlagged_source] at hi
    obtain ⟨b, hb, hst, hr⟩ := State.source_fieldNodesDown_some hi
    obtain ⟨hidle, hclear⟩ := ha.source hb
    exact ⟨hst.trans hidle, hr.trans hclear⟩
  · rw [State.notifyFlagged_agent_claims]
    exact ha.2 k

theorem State.WorkFrom.fieldLinkDown (hs : s.WorkFrom o) : s.fieldLinkDown.WorkFrom o := by
  have hq : ({ s with field := s.field.enterQuiet s.fieldGiven } : State).WorkFrom o := hs.of_link rfl nofun rfl rfl rfl rfl
  have hd := State.workFrom_fieldNodesDown hq nofun .fieldDown
  unfold State.fieldLinkDown
  dsimp only
  split
  · exact hd.of_link rfl id rfl rfl rfl rfl
  · exact hd

theorem workFrom_silenceTimeout {p : PortId} (h : execSilenceTimeout p s = .next t) (hs : s.WorkFrom o) : t.WorkFrom o := by
  unfold execSilenceTimeout at h
  split at h
  · cases p with
    | trunk =>
      cases h
      exact s.workKept_trunkLinkDown.workFrom hs
    | field =>
      cases h
      exact hs.fieldLinkDown
  · cases h
    exact hs

/-- A command that replaces a port without bringing it UP, or does nothing. -/
theorem workFrom_setLine_or_idle {p : PortId} {l : Line} {b : Prop} [Decidable b]
    (h : (if b then .next (s.setLine p l) else .next s : Outcome) = .next t) (hs : s.WorkFrom o)
    (hl : b → l.link = .up → (s.line p).link = .up) : t.WorkFrom o := by
  split at h
  · rename_i hb
    cases h
    exact hs.setLine (hl hb)
  · cases h
    exact hs

theorem workFrom_resetEnd {v : BitVec 3} (h : execResetEnd v s = .next t) (hs : s.WorkFrom o) : t.WorkFrom o := by
  unfold execResetEnd at h
  split at h
  · cases h
    exact hs
  · cases h
    exact (hs.driveRstn true).endReset v

theorem workFrom_powerOn {v : BitVec 3} {rstn : Bool} (h : execPowerOn v rstn s = .next t) : t.WorkFrom o := by
  unfold execPowerOn at h
  split at h
  · cases h
    exact ((State.workFrom_powerOnReset s).driveRstn true).endReset v
  · cases h
    exact (State.workFrom_powerOnReset s).of_link rfl id rfl rfl rfl rfl

end

/-- Every command keeps each of the two laws. -/
theorem workFrom_of_exec {c : Instr} {o s t : State} (h : exec c s = .next t) (hs : s.WorkFrom o) : t.WorkFrom o := by
  cases Instr.kind c with
  | request c => exact workFrom_request h hs
  | evt => exact workFrom_evt h hs
  | state => exact workFrom_state h hs
  | moveNotice => exact (workKept_moveNotice h).workFrom hs
  | placeSyncq => exact (workKept_placeSyncq h).workFrom hs
  | resyncWaitExpiry slot =>
    simp only [exec, execResyncWaitExpiry] at h
    split at h
    · cases h
      exact State.workFrom_waitExpiry hs _
    · cases h
  | serviceTimerExpiry agent index => exact (workKept_serviceTimerExpiry h).workFrom hs
  | sampleEvent levels => exact (workKept_sampleEvent h).workFrom hs
  | trunkTransmitter => exact (workKept_trunkTransmitter h).workFrom hs
  | frameTransmitted p v =>
    cases p with
    | trunk =>
      cases h
      exact hs.trunkTransmitted v
    | field =>
      cases h
      exact s.workKept_fieldTransmitted.workFrom hs
  | frameReceived p bytes => exact workFrom_frameReceived h hs
  | readyReceived p count => exact workFrom_readyReceived h hs
  | creditReceived p => exact workFrom_setLine_or_idle h hs fun _ hl => hl
  | quietPhaseEnd p => exact workFrom_setLine_or_idle h hs fun _ hl => nomatch hl
  | readyFill p => exact workFrom_setLine_or_idle h hs fun _ hl => hl
  | silenceTimeout p => exact workFrom_silenceTimeout h hs
  | warmReset =>
    cases h
    exact (State.workFrom_warmReset s).driveRstn false
  | resetEnd v => exact workFrom_resetEnd h hs
  | powerOn v rstn => exact workFrom_powerOn h
  | undefinedRequestCode => exact (workKept_undefinedRequestCode h).workFrom hs
  | foreignFrame => exact (workKept_foreignFrame h).workFrom hs
  | trunkDataTaken => exact (workKept_trunkDataTaken h).workFrom hs
  | trunkDataPlaced => exact (workKept_trunkDataPlaced h).workFrom hs
  | fieldDataTaken => exact (workKept_fieldDataTaken h).workFrom hs
  | fieldDataPlaced => exact (workKept_fieldDataPlaced h).workFrom hs
  | strayFrame => exact (workKept_strayFrame h).workFrom hs
  | fieldTransmitter => exact (workKept_fieldTransmitter h).workFrom hs

theorem workFrom_of_step {s t : State} (h : step s = .next t) : t.WorkFrom s := by
  unfold step at h
  split at h
  · cases h
    exact .refl s
  · exact workFrom_of_exec h ((State.WorkFrom.refl s).of_link rfl id rfl rfl rfl rfl)

/-! ## The statements -/

/-- Settles O57: the moves keep node 0 and the wait list; every command that lets a node wait, frees a slot or brings the
field port UP ends with the filling of the slots. -/
theorem nodesKept : Obligations.NodesKept := by
  refine ⟨?zero, ?wait, ?busy⟩
  case zero => exact keptByStep_of_move fun _ _ => Move.nodeZeroLaw
  case wait =>
    exact keptByStep_of_moves (Q := State.NodeZeroLaw) (fun _ h => h) fun _ _ hm h0 hw =>
      ⟨hm.nodeZeroLaw h0, hm.waitLaw h0 hw⟩
  case busy => exact fun _ _ _ hs h => (workFrom_of_step h).2 hs

/-- Settles O59: what STANDBY allows leaves the tables at rest; and the mode, the timing and the filters change in a few
moves. -/
theorem partLawsKept : Obligations.PartLawsKept :=
  ⟨fun _ _ _ hs h => (workFrom_of_step h).1 hs, retainedLaw_kept, timingLaw_kept, contactLaw_kept⟩

end Sys2Proof.Machine
end

section
/-! PROOFS. The step, the codes, the replies and the state after reset; and how a request reaches its owning block. -/

namespace Sys2Proof.Machine

open Sys2Proof

/-- Settles O1, which is the definition of the step read on both shapes of the queue. -/
theorem stepRunsFrontCommand : Obligations.StepRunsFrontCommand := by
  refine ⟨fun s c rest h => ?_, fun s h => ?_⟩
  · unfold step
    rw [h]
  · unfold step
    rw [h]

/-! ## Codes and counters -/

theorem halfBytes_eq (h : Half) : halfBytes h = [BitVec.ofNat 8 (h.toNat / 256), BitVec.ofNat 8 (h.toNat % 256)] := by
  unfold halfBytes
  congr 1
  · apply BitVec.eq_of_toNat_eq
    simp [BitVec.extractLsb'_toNat, Nat.shiftRight_eq_div_pow]
  · congr 1
    apply BitVec.eq_of_toNat_eq
    simp [BitVec.extractLsb'_toNat]

theorem Reasons.byte_eq (e l a f : Bool) : Reasons.byte { edgeOwed := e, latched := l, asserted := a, forced := f } =
    (if e = true then 0x01#8 else 0#8) ||| (if l = true then 0x02#8 else 0#8) |||
      (if a = true then 0x04#8 else 0#8) ||| (if f = true then 0x08#8 else 0#8) := by
  revert e l a f
  decide

theorem Consumed.byte_eq (e l : Bool) : Consumed.byte { edgeOwed := e, latched := l } =
    (if e = true then 0x01#8 else 0#8) ||| (if l = true then 0x02#8 else 0#8) := by
  revert e l
  decide

theorem ReqCode.needsSession_eq (c : ReqCode) :
    c.needsSession = decide (c ∉ [ReqCode.join, .readAgent, .readSource, .readNode, .readPart]) := by cases c <;> rfl

theorem ReqCode.needsRole_eq {c : ReqCode} (args : List Byte) (hn : c ≠ .readNode) (hp : c ≠ .readPart) :
    c.needsRole args =
      decide (c ∉ [ReqCode.join, .leave, .setMask, .readAgent, .claim, .peek, .done, .readSource]) := by
  cases c with
  | readNode => exact absurd rfl hn
  | readPart => exact absurd rfl hp
  | _ => rfl

theorem ReqCode.clearOption_eq_none {c : ReqCode} (args : List Byte) (hn : c ≠ .readNode) (hp : c ≠ .readPart) :
    c.clearOption args = none := by
  cases c with
  | readNode => exact absurd rfl hn
  | readPart => exact absurd rfl hp
  | _ => rfl

theorem ReqCode.needsMode_eq (c : ReqCode) :
    c.needsMode = if c ∈ [ReqCode.claim, .peek, .done, .force] then some .run
      else if c = .resume then some .standby else none := by cases c <;> rfl

/-- Settles O3: the tables of codes hold by evaluation, the counters by the equation of `satAdd`. -/
theorem codesAndCounters : Obligations.CodesAndCounters := by
  refine ⟨rfl, ReqCode.needsSession_eq, fun c args hn hp => ReqCode.needsRole_eq args hn hp,
    fun c args hn hp => ReqCode.clearOption_eq_none args hn hp, fun _ _ => rfl, fun _ => rfl, fun n o => ?_, fun o => ?_,
    ReqCode.needsMode_eq, rfl, rfl, rfl, rfl, rfl, rfl, rfl, fun _ => rfl, fun _ => rfl, fun _ _ _ => rfl, Reasons.byte_eq,
    Consumed.byte_eq, fun _ => rfl, rfl, fun _ _ => rfl, fun _ => rfl, halfBytes_eq, fun _ => rfl, fun _ => rfl,
    fun c n => satAdd_toNat c n, fun c n => satAdd_toNat c n⟩
  · simp [ReqCode.needsRole, ReqCode.clearOption]
  · simp [ReqCode.needsRole, ReqCode.clearOption]

/-! ## Replies -/

/-- A finished buffer is lent with a CREDIT that goes out at once or waits for the end of the frame being sent (R152). -/
theorem Line.finishHead_eq {l : Line} (h : l.talks = true) : l.finishHead = { l with
    rx := l.rx.tail
    hold := false
    creditGiven := l.creditGiven + 1
    creditsOwed := if l.sending = none then l.creditsOwed else l.creditsOwed + 1
    sent := if l.sending = none then l.sent ++ [LineItem.credit] else l.sent } := by
  unfold Line.finishHead Line.lend
  rw [Line.sendCredits_eq]
  have ht : Line.talks { l with rx := l.rx.tail, hold := false, creditGiven := l.creditGiven + 1 } = true := h
  simp only [ht, true_and]
  cases hs : l.sending <;> simp

theorem Line.talks_iff (l : Line) : l.talks = true ↔ l.link = .announcing ∨ l.link = .up := by simp [Line.talks]

/-- Settles O4: the CREDIT of a finished buffer, and the frame a reply is. -/
theorem buffersAndReplies : Obligations.BuffersAndReplies := by
  refine ⟨fun l h => Line.finishHead_eq ((l.talks_iff).2 h.symm), fun s f r _ code args hp => ?_⟩
  unfold State.answer State.replyFrame
  rw [hp, ← s.trunk.finishHead_queue]
  rfl

/-! ## After reset -/

theorem State.source_reset (i : SourceIx) : State.reset.source i = none := by simp [State.reset, State.source]

theorem State.agent_reset (k : AgentId) : State.reset.agent k = Agent.afterReset := by simp [State.reset, State.agent]

theorem State.slots_reset (j : SlotId) : State.reset.slots[j] = none := by simp [State.reset]

theorem State.promotion_reset (p : PromoSlot) : State.reset.promotion[p] = none := by simp [State.reset]

theorem State.node_reset (n : NodeId) : State.reset.node n = if n = 0 then some Node.contactBlock else none := by
  revert n
  decide

/-- Settles O51: after reset the tables are empty, but for node 0. -/
theorem resetMeetsLaws : Obligations.ResetMeetsLaws := by
  have hwait (n : NodeId) : (State.reset.node n).map Node.state ≠ some .waiting ∧
      (State.reset.node n).map Node.state ≠ some .resyncing := by
    rw [State.node_reset]
    split <;> simp [Node.contactBlock]
  refine ⟨?key, ?rank, ?pending, ?reason, ?promotion, ?role, ?detached, ?list, ?claim, ?alert, ?zero, ?wait, ?uncertain,
    ?busy, ?retained, ?standby, ?timing, ?contact, ?queue, ?restart, ?port⟩
  case key => simp [State.KeyLaw, State.source_reset]
  case rank => simp [State.RankLaw, State.source_reset]
  case pending => simp [State.PendingLaw, State.source_reset]
  case reason => simp [State.ReasonLaw, State.source_reset]
  case promotion => simp [State.PromotionLaw, State.promotion_reset, -Fin.getElem_fin]
  case role => exact nofun
  case detached => simp [State.DetachedLaw, State.agent_reset, Agent.afterReset]
  case list => simp [State.ListLaw, State.agent_reset, Agent.afterReset]
  case claim => simp [State.ClaimLaw, State.source_reset, State.agent_reset, Agent.afterReset]
  case alert => simp [State.AlertLaw, State.agent_reset, Agent.afterReset, Agent.attached]
  case zero => exact ⟨⟨Node.contactBlock, rfl, rfl, rfl, rfl, rfl, rfl⟩, nofun, by simp [State.slots_reset, -Fin.getElem_fin]⟩
  case wait =>
    refine ⟨List.nodup_nil, fun n => iff_of_false nofun (hwait n).1, fun n => iff_of_false ?_ (hwait n).2, ?_⟩
    · simp [State.slots_reset, -Fin.getElem_fin]
    · simp [State.slots_reset, -Fin.getElem_fin]
  case uncertain => simp [State.UncertainLaw, State.source_reset]
  case busy => exact nofun
  case retained => exact nofun
  case standby => simp [State.StandbyLaw, State.source_reset, State.agent_reset, Agent.afterReset, State.slots_reset, -Fin.getElem_fin]
  case timing => exact ⟨by decide, by decide, by decide, by decide⟩
  case contact => simp [State.ContactLaw, State.reset, Contact.afterPowerOn, Contact.Law]
  case queue => exact ⟨by decide, by decide⟩
  case restart => exact Nat.zero_le 1
  case port => exact ⟨Line.law_reset Line.afterReset, Line.law_reset Line.afterReset, fun _ => ⟨rfl, rfl⟩⟩

/-! ## Requests on their way to the owning block -/

section
variable {s : State} {f : Frame} {k : AgentId} {c : ReqCode} {args : List Byte}

/-- A request that meets the common checks is decided by its owning block (R129, R130). -/
theorem exec_own (h : s.Sends f k (c.byte :: args)) (hw : c.wellFormed args = true)
    (hj : c.needsSession = true → s.Joined k) (hr : c.needsRole args = true → s.role = some k)
    (hm : ∀ m, c.needsMode = some m → s.mode = m) :
    exec c.row s = .next ((c.own k args s).1.answer f (c.own k args s).2) := by
  rw [exec_row]
  exact serve_of_sends c c.own args h hw hj hr hm

/-- A well-formed request of the manager that no mode concerns. -/
theorem exec_managed (h : s.Sends f k (c.byte :: args)) (hm : s.Manages k) (hw : c.wellFormed args = true)
    (hn : c.needsMode = none) : exec c.row s = .next ((c.own k args s).1.answer f (c.own k args s).2) :=
  exec_own h hw (fun _ => hm.1) (fun _ => hm.2) fun _ he => by simp [hn] at he

end

/-! ## SET-TIMING (R135) -/

theorem timingArgs_of_bytes {w t : Byte} (hw : 1 ≤ w.toNat) (ht : 1 ≤ t.toNat) (h7 : t.toNat ≤ 7) :
    timingArgs [w, t] = some (w.toNat, t.toNat) := by simp [timingArgs, hw, ht, h7]

theorem timingArgs_none {w t : Byte} (h : w.toNat = 0 ∨ t.toNat = 0 ∨ 7 < t.toNat) : timingArgs [w, t] = none := by
  exact if_neg (by omega)

@[simp] theorem byteOf_toNat (b : Byte) : byteOf b.toNat = b := by simp [byteOf]

/-- Settles O38: the common checks pass, and the two values are in range or not. -/
theorem setTimingStores : Obligations.SetTimingStores := by
  intro s f k w t h hm
  have he := exec_managed (c := .setTiming) h hm rfl rfl
  refine ⟨fun hw ht h7 => ?stored, fun hbad => ?refused⟩
  case stored =>
    rw [show Instr.setTiming = ReqCode.row .setTiming from rfl, he]
    simp [ReqCode.own, setTimingAct, timingArgs_of_bytes hw ht h7, Reply.done]
  case refused =>
    rw [show Instr.setTiming = ReqCode.row .setTiming from rfl, he]
    simp [ReqCode.own, setTimingAct, timingArgs_none hbad, Reply.bare]

end Sys2Proof.Machine
end

section
/-! PROOFS. The requests of the claim unit and of the source table, one equation for each case of their acts. -/

namespace Sys2Proof.Machine

open Sys2Proof

/-! ## READ-AGENT and READ-SOURCE (R20, R70) -/

theorem agentArg_byteOf (j : AgentId) : agentArg [byteOf j.val] = some j := below_byteOf (by omega) j

theorem agentArg_none {j : Byte} (h : 3 < j.toNat) : agentArg [j] = none := below_none j h

theorem indexArg_byteOf (i : SourceIx) : indexArg [byteOf i.val] = some i := by simp [indexArg, indexOf_byteOf]

theorem readAgentAct_of_agent (s : State) (k j : AgentId) :
    readAgentAct k [byteOf j.val] s = (s, Reply.done (s.agentReport j)) := by simp [readAgentAct, agentArg_byteOf]

theorem readAgentAct_of_badArgument (s : State) (k : AgentId) {j : Byte} (h : 3 < j.toNat) :
    readAgentAct k [j] s = (s, { status := .badArgument }) := by simp [readAgentAct, agentArg_none h, Reply.bare]

theorem readSourceAct_of_loaded {s : State} {i : SourceIx} {a : Source} (k : AgentId) (h : s.source i = some a) :
    readSourceAct k [byteOf i.val] s = (s, Reply.done (s.sourceReport i a)) := by
  simp [readSourceAct, indexArg_byteOf, h]

theorem readSourceAct_of_vacant {s : State} {i : SourceIx} (k : AgentId) (h : s.source i = none) :
    readSourceAct k [byteOf i.val] s = (s, { status := .noEntry }) := by
  simp [readSourceAct, indexArg_byteOf, h, Reply.bare]

/-- Settles O16: the two reports are those of the owning blocks. -/
theorem readAgentAndSource : Obligations.ReadAgentAndSource := by
  refine ⟨fun s f k j h => ?agent, fun s f k j h hj => ?badAgent, fun s f k i a h ha => ?source, fun s f k i h hi => ?vacant⟩
  case agent =>
    have he := exec_own (c := .readAgent) h rfl nofun nofun nofun
    dsimp only [ReqCode.row, ReqCode.own] at he
    rw [he, readAgentAct_of_agent]
    simp [State.agentReport, Reply.done, Consumed.byte]
  case badAgent =>
    have he := exec_own (c := .readAgent) h rfl nofun nofun nofun
    dsimp only [ReqCode.row, ReqCode.own] at he
    rw [he, readAgentAct_of_badArgument s k hj]
  case source =>
    have he := exec_own (c := .readSource) h rfl nofun nofun nofun
    dsimp only [ReqCode.row, ReqCode.own] at he
    rw [he, readSourceAct_of_loaded k ha]
    have hholder : s.holderReport i a = match a.status with
        | .held h => byteOf h.val :: halfBytes (match (s.agent h).claimOn i with
          | some c => c.grant
          | none => 0#16)
        | .idle => [0xFF#8, 0x00#8, 0x00#8]
        | .pending => [0xFF#8, 0x00#8, 0x00#8] := by
      unfold State.holderReport
      cases a.status <;> rfl
    have hslot : optByte (s.promoSlot i) = match s.promoSlot i with
        | some p => byteOf p.val
        | none => 0xFF#8 := by
      cases s.promoSlot i <;> rfl
    rw [State.sourceReport, hholder, hslot]
    rfl
  case vacant =>
    have he := exec_own (c := .readSource) h rfl nofun nofun nofun
    dsimp only [ReqCode.row, ReqCode.own] at he
    rw [he, readSourceAct_of_vacant k hi]

/-! ## CLAIM (R73, R74) -/

section
variable {s : State} {k : AgentId} {args : List Byte}

theorem claimAct_of_badArgument (h : rangeArgs args = none) : claimAct k args s = (s, { status := .badArgument }) := by
  simp [claimAct, h, Reply.bare]

variable {floor ceiling : Rank} (h : rangeArgs args = some (floor, ceiling))
include h

theorem claimAct_of_full (hl : 8 ≤ (s.agent k).claims.length) : claimAct k args s = (s, { status := .full }) := by
  simp [claimAct, h, hl, Reply.bare]

variable (hl : (s.agent k).claims.length < 8)
include hl

theorem claimAct_of_none (hb : s.best (s.eligible k floor ceiling) = none) :
    claimAct k args s = (s, { status := .none }) := by
  have hnot : ¬ 8 ≤ (s.agent k).claims.length := by omega
  simp [claimAct, h, hnot, hb, Reply.bare]

theorem claimAct_of_best {i : SourceIx} {a : Source} (hb : s.best (s.eligible k floor ceiling) = some (i, a)) :
    claimAct k args s = (s.grant k i a, Reply.done (s.claimReport i a)) := by
  have hnot : ¬ 8 ≤ (s.agent k).claims.length := by omega
  simp [claimAct, h, hnot, hb]

end

theorem exec_claim {s : State} {f : Frame} {k : AgentId} {lo hi : Byte} (h : s.Sends f k [0x05#8, lo, hi])
    (hj : s.Joined k) (hm : s.mode = .run) :
    exec .claim s = .next ((claimAct k [lo, hi] s).1.answer f (claimAct k [lo, hi] s).2) :=
  exec_own (c := .claim) h rfl (fun _ => hj) nofun fun _ he => hm.trans (Option.some.inj he)

/-- Settles O18: the range, the size of the list and the choice, in that order. -/
theorem claimRefusals : Obligations.ClaimRefusals := by
  intro s f k lo hi h hj hm range
  refine ⟨fun hr => ?badArgument, fun ⟨h1, hle, h7⟩ hl => ?full, fun ⟨h1, hle, h7⟩ hl hnone => ?none⟩
  case badArgument => rw [exec_claim h hj hm, claimAct_of_badArgument (rangeArgs_none hr)]
  case full => rw [exec_claim h hj hm, claimAct_of_full (rangeArgs_of_range h1 hle h7) hl]
  case none =>
    have hb := State.best_eq_none (s := s) (P := s.eligible k ⟨lo.toNat, by omega⟩ ⟨hi.toNat, by omega⟩)
      fun j b hs => Bool.eq_false_iff.2 fun hp => hnone j b ((State.eligible_iff hs k _ _).1 hp)
    rw [exec_claim h hj hm, claimAct_of_none (rangeArgs_of_range h1 hle h7) hl hb]

theorem State.agents_eq_ofFn {s : State} {g : AgentId → Agent} (h : ∀ j, s.agent j = g j) : s.agents = Vector.ofFn g :=
  Vector.ext fun j hj => (h ⟨j, hj⟩).trans (Vector.getElem_ofFn hj).symm

theorem State.sources_eq_ofFn {s : State} {g : SourceIx → Option Source} (h : ∀ i, s.source i = g i) :
    s.sources = Vector.ofFn g :=
  Vector.ext fun i hi => (h ⟨i, hi⟩).trans (Vector.getElem_ofFn hi).symm

theorem State.nodes_eq_ofFn {s : State} {g : NodeId → Option Node} (h : ∀ n, s.node n = g n) : s.nodes = Vector.ofFn g :=
  Vector.ext fun n hn => (h ⟨n, hn⟩).trans (Vector.getElem_ofFn hn).symm

/-- The state of a grant before the source is HELD: the lists and the grant number are written (R72, R74). -/
def State.listed (s : State) (k : AgentId) (i : SourceIx) (a : Source) : State :=
  State.modAgent { s with agents := s.agents.map (Agent.dropMark i), grantNumber := s.grantNumber + 1#16 } k
    fun g => { g with claims := g.claims ++ [s.newClaim k i a] }

theorem State.grant_eq_listed (s : State) (k : AgentId) (i : SourceIx) (a : Source) :
    s.grant k i a = (s.listed k i a).changeSource i (Source.grant k) := rfl

theorem State.agents_listed (s : State) (k : AgentId) (i : SourceIx) (a : Source) :
    (s.listed k i a).agents = Vector.ofFn fun j => { s.agent j with
      marks := (s.agent j).marks.filter fun m => decide (m ≠ i)
      claims := if j = k then (s.agent j).claims ++ [s.newClaim k i a] else (s.agent j).claims } := by
  refine State.agents_eq_ofFn fun j => ?_
  rw [State.listed, State.agent_modAgent]
  by_cases hj : k = j
  · subst hj
    simp [State.agent, Agent.dropMark]
  · simp [State.agent, Agent.dropMark, hj, Ne.symm hj]

/-- The state a grant leaves, written out: a PENDING source becomes HELD, so every attached agent is re-evaluated. -/
theorem State.grant_of_pending {s : State} {k : AgentId} {i : SourceIx} {a : Source} (h : s.source i = some a)
    (hp : a.status = .pending) : s.grant k i a = State.reEvaluateAll { s with
      grantNumber := s.grantNumber + 1#16
      sources := s.sources.set i (some (a.grant k))
      agents := Vector.ofFn fun j => { s.agent j with
        marks := (s.agent j).marks.filter fun m => decide (m ≠ i)
        claims := if j = k then (s.agent j).claims ++ [s.newClaim k i a] else (s.agent j).claims } } := by
  have ht : (s.listed k i a).source i = some a := h
  have hne : (a.grant k).status ≠ a.status := by
    rw [hp]
    nofun
  rw [State.grant_eq_listed, State.changeSource_loaded _ ht, if_neg hne, ← s.agents_listed k i a]
  rfl

/-- Settles O17: the best source is the eligible one that comes first, and the grant is written out. -/
theorem claimGrantsBest : Obligations.ClaimGrantsBest := by
  intro s f k lo hi i a h hj hm h1 hle h7 hl he hfirst consumed kept claim t
  have hb := State.best_eq_of_precedes (P := s.eligible k ⟨lo.toNat, by omega⟩ ⟨hi.toNat, by omega⟩) he.1
    ((State.eligible_iff he.1 k _ _).2 he) fun j b hs hp hne => hfirst j b ((State.eligible_iff hs k _ _).1 hp) hne
  rw [exec_claim h hj hm, claimAct_of_best (rangeArgs_of_range h1 hle h7) hl hb, State.grant_of_pending he.1 he.2.1]
  rfl

/-! ## The promotion table (R53, R55) -/

theorem promoArgs_of_bytes (p : PromoSlot) (i : SourceIx) : promoArgs [byteOf p.val, byteOf i.val] = some (p, i) := by
  simp [promoArgs, below_byteOf (by omega : 4 ≤ 256), indexOf_byteOf]

theorem promoArgs_none {p : Byte} (i : Byte) (h : 3 < p.toNat) : promoArgs [p, i] = none := by
  simp [promoArgs, below_none (n := 4) p h]

theorem slotArg_byteOf (p : PromoSlot) : slotArg [byteOf p.val] = some p := below_byteOf (by omega) p

theorem slotArg_none {p : Byte} (h : 3 < p.toNat) : slotArg [p] = none := below_none p h

section
variable {s : State} {k : AgentId} {p : PromoSlot} {i : SourceIx}

theorem putPromotionAct_of_vacant (h : s.source i = none) :
    putPromotionAct k [byteOf p.val, byteOf i.val] s = (s, { status := .noEntry }) := by
  simp [putPromotionAct, promoArgs_of_bytes, h, Reply.bare]

variable {a : Source} (h : s.source i = some a)
include h

theorem putPromotionAct_of_rank (hr : a.config.rank = 0 ∨ a.config.rank = 7) :
    putPromotionAct k [byteOf p.val, byteOf i.val] s = (s, { status := .badArgument }) := by
  simp [putPromotionAct, promoArgs_of_bytes, h, hr, Reply.bare]

variable (h0 : a.config.rank ≠ 0) (h7 : a.config.rank ≠ 7)
include h0 h7

theorem putPromotionAct_of_named (hq : ∃ q : PromoSlot, q ≠ p ∧ s.promotion[q] = some i) :
    putPromotionAct k [byteOf p.val, byteOf i.val] s = (s, { status := .keyInUse }) := by
  have hany : ((List.finRange 4).any fun q => decide (q ≠ p ∧ s.promotion[q] = some i)) = true := by
    obtain ⟨q, hq⟩ := hq
    exact List.any_eq_true.2 ⟨q, List.mem_finRange q, decide_eq_true hq⟩
  simp only [putPromotionAct, promoArgs_of_bytes, h, h0, h7, or_self, if_false, hany, if_true, Reply.bare]

theorem putPromotionAct_of_free (hq : ∀ q : PromoSlot, q ≠ p → s.promotion[q] ≠ some i) :
    putPromotionAct k [byteOf p.val, byteOf i.val] s =
      ((s.setPromotion p (some i)).reEvaluateAll, Reply.done (previousReport s.promotion[p])) := by
  have hany : ((List.finRange 4).any fun q => decide (q ≠ p ∧ s.promotion[q] = some i)) = false :=
    List.any_eq_false.2 fun q _ hd => by
      obtain ⟨hne, hs⟩ := of_decide_eq_true hd
      exact hq q hne hs
  simp only [putPromotionAct, promoArgs_of_bytes, h, h0, h7, or_self, if_false, hany, Bool.false_eq_true]

end

theorem exec_putPromotion {s : State} {f : Frame} {k : AgentId} {p i : Byte} (h : s.Sends f k [0x08#8, p, i])
    (hm : s.Manages k) :
    exec .putPromotion s = .next ((putPromotionAct k [p, i] s).1.answer f (putPromotionAct k [p, i] s).2) :=
  exec_managed (c := .putPromotion) h hm rfl rfl

theorem exec_clearPromotion {s : State} {f : Frame} {k : AgentId} {p : Byte} (h : s.Sends f k [0x09#8, p])
    (hm : s.Manages k) :
    exec .clearPromotion s = .next ((clearPromotionAct k [p] s).1.answer f (clearPromotionAct k [p] s).2) :=
  exec_managed (c := .clearPromotion) h hm rfl rfl

/-- Settles O23: the checks of R53 in order, and the slot of a CLEAR-PROMOTION. -/
theorem promotionRequests : Obligations.PromotionRequests := by
  refine ⟨⟨fun s f k p i h hm => ⟨fun hi => ?vacant, fun a ha => ⟨fun hr => ?rank, fun h0 h7 hq => ?named,
    fun h0 h7 hq => ?put⟩⟩, fun s f k p i h hm hp => ?badSlot⟩, fun s f k p h hm => ?clear, fun s f k p h hm hp => ?badClear⟩
  case vacant => rw [exec_putPromotion h hm, putPromotionAct_of_vacant hi]
  case rank => rw [exec_putPromotion h hm, putPromotionAct_of_rank ha hr]
  case named => rw [exec_putPromotion h hm, putPromotionAct_of_named ha h0 h7 hq]
  case put =>
    rw [exec_putPromotion h hm, putPromotionAct_of_free ha h0 h7 hq]
    rfl
  case badSlot =>
    rw [exec_putPromotion h hm]
    simp [putPromotionAct, promoArgs_none i hp, Reply.bare]
  case clear =>
    rw [exec_clearPromotion h hm]
    simp only [clearPromotionAct, slotArg_byteOf]
    rfl
  case badClear =>
    rw [exec_clearPromotion h hm]
    simp [clearPromotionAct, slotArg_none hp, Reply.bare]

end Sys2Proof.Machine
end

section
/-! PROOFS. The requests of the source table (Chapters 1 and 2), one equation for each case of their acts. -/

namespace Sys2Proof.Machine

open Sys2Proof

/-! ## PUT-SOURCE (R7 to R12) -/

theorem classOf_none {b : Byte} (h : 1 < b.toNat) : classOf b = none := by
  have h0 : b ≠ 0#8 := by rintro rfl; simp at h
  have h1 : b ≠ 1#8 := by rintro rfl; simp at h
  simp [classOf, h0, h1]

theorem triggerOf_none {b : Byte} (h : 2 < b.toNat) : triggerOf b = none := by
  have h0 : b ≠ 0#8 := by rintro rfl; simp at h
  have h1 : b ≠ 1#8 := by rintro rfl; simp at h
  have h2 : b ≠ 2#8 := by rintro rfl; simp at h
  simp [triggerOf, h0, h1, h2]

theorem rankOf_none {b : Byte} (h : b.toNat = 0 ∨ 7 < b.toNat) : rankOf b = none := by
  refine Option.eq_none_iff_forall_ne_some.2 fun r hr => ?_
  obtain ⟨hv, h1⟩ := (rankOf_eq_some_iff b r).1 hr
  omega

theorem routeOf_none {b : Byte} (h : 15 < b.toNat) : routeOf b = none := by
  unfold routeOf
  rw [if_neg (by omega)]

/-- Each of eight arguments of a PUT-SOURCE can be the one out of range (R8 step 1). -/
theorem sourceArgs_none (i : Byte) {n c cl tr rk o ro b : Byte}
    (h : 63 < n.toNat ∨ 15 < c.toNat ∨ 1 < cl.toNat ∨ 2 < tr.toNat ∨ rk.toNat = 0 ∨ 7 < rk.toNat ∨ 15 < o.toNat ∨
      15 < ro.toNat ∨ 1 < b.toNat) : sourceArgs [i, n, c, cl, tr, rk, o, ro, b] = none := by
  unfold sourceArgs
  rcases h with h | h | h | h | h | h | h | h | h
  · simp [below_none (n := 64) n h]
  · simp [below_none (n := 16) c h]
  · simp [classOf_none h]
  · simp [triggerOf_none h]
  · simp [rankOf_none (.inl h)]
  · simp [rankOf_none (.inr h)]
  · simp [below_none (n := 16) o h]
  · simp [routeOf_none h]
  · simp [flagOf_none b h]

section
variable {s : State} {i : SourceIx} {g : SourceConfig}

theorem State.keyElsewhere_eq_true (h : ¬ ∀ j : SourceIx, j ≠ i → ∀ b ∈ s.source j,
    ¬ (b.config.node = g.node ∧ b.config.channel = g.channel)) : s.keyElsewhere i g = true :=
  Bool.of_not_eq_false fun hf => h ((s.keyElsewhere_eq_false i g).1 hf)

variable (k : AgentId) (hr : g.rank ≠ 0)
include hr

theorem putSourceAct_of_loaded {a : Source} (h : s.source i = some a) :
    putSourceAct k (sourceBytes i g) s =
      if a.config.node ≠ g.node ∨ a.config.channel ≠ g.channel then (s, Reply.bare .indexInUse)
      else if s.keyElsewhere i g then (s, Reply.bare .keyInUse)
      else s.updateSource i g a := by
  simp only [putSourceAct, sourceArgs_sourceBytes i g hr, h]

theorem putSourceAct_of_vacant (h : s.source i = none) :
    putSourceAct k (sourceBytes i g) s =
      if s.keyElsewhere i g then (s, Reply.bare .keyInUse) else s.loadSource i g := by
  simp only [putSourceAct, sourceArgs_sourceBytes i g hr, h]

end

theorem exec_putSource {s : State} {f : Frame} {k : AgentId} {args : List Byte} (h : s.Sends f k (0x0A#8 :: args))
    (hm : s.Manages k) (hl : args.length = 9) :
    exec .putSource s = .next ((putSourceAct k args s).1.answer f (putSourceAct k args s).2) :=
  exec_managed (c := .putSource) h hm (by simp [ReqCode.wellFormed, ReqCode.clearOption, ReqCode.len, hl]) rfl

theorem sourceBytes_length (i : SourceIx) (g : SourceConfig) : (sourceBytes i g).length = 9 := rfl

/-- A newly loaded source, written out: only an active contact makes it PENDING, and only in LEVEL class (R7). -/
theorem State.newSource_eq (s : State) (g : SourceConfig) (r : Node) : s.newSource g r = {
    config := g
    status := if g.cls = .level ∧ s.firstLevel g = true then .pending else .idle
    reasons := { edgeOwed := false, latched := false, asserted := s.firstLevel g, forced := false }
    uncertain := decide (r.state ≠ .synced)
    merge := 0#8 } := by
  rw [State.newSource, Source.settle_eq, Source.active_eq]
  cases g.cls <;> simp [Source.isHeld]

/-- An updated source, written out: a class change, made while IDLE, clears the merge count and evaluates (R10, R11). -/
theorem Source.update_eq {a : Source} {g : SourceConfig} (h : g.cls ≠ a.config.cls → a.status = .idle) :
    a.update g = if g.cls = a.config.cls then { a with config := g }
      else { a with
        config := g, merge := 0#8
        status := if ({ a with config := g } : Source).active = true then .pending else .idle } := by
  unfold Source.update
  by_cases hc : g.cls = a.config.cls
  · rw [if_pos hc, if_pos hc.symm]
  · have hheld : a.isHeld = false := by simp [Source.isHeld, h hc]
    have hact : ({ a with config := g, merge := 0#8 } : Source).active = ({ a with config := g } : Source).active :=
      Source.active_congr rfl rfl
    rw [if_neg hc, if_neg (Ne.symm hc), Source.settle_eq, hact, if_neg (by simpa [Source.isHeld] using hheld)]

/-- Settles O24: the checks of R8 pass, and the loaded or updated source is written out. -/
theorem putSourceLoadsOrUpdates : Obligations.PutSourceLoadsOrUpdates := by
  refine ⟨fun s f k i g r h hm hr hi hkey hn h7 => ?load, fun s f k i g a h hm hr ha hnode hchan hlaw h7 hcls hprom => ?update⟩
  case load =>
    have hk : s.keyElsewhere i g = false := (s.keyElsewhere_eq_false i g).2 fun j _ b hb => hkey j b hb
    have h7' : ¬ (g.rank = 7 ∧ g.cls ≠ .edge) := fun ⟨hrk, hc⟩ => hc (h7 hrk)
    rw [exec_putSource h hm (sourceBytes_length i g), putSourceAct_of_vacant k hr hi, hk]
    simp only [Bool.false_eq_true, if_false, State.loadSource, hn, if_neg h7', State.newSource_eq]
    rfl
  case update =>
    obtain ⟨huniq, hpresent⟩ := hlaw
    have hk : s.keyElsewhere i g = false := (s.keyElsewhere_eq_false i g).2 fun j hj b hb hbk =>
      hj (huniq j b hb i a ha (hbk.1.trans hnode.symm) (hbk.2.trans hchan.symm))
    have hnone : (s.node g.node).isNone = false := by
      rw [← hnode]
      exact Option.isNone_eq_false_iff.2 (hpresent i a ha)
    have h7' : ¬ (g.rank = 7 ∧ g.cls ≠ .edge) := fun ⟨hrk, hc⟩ => hc (h7 hrk)
    have hbusy : ¬ (g.cls ≠ a.config.cls ∧ a.status ≠ .idle) := fun ⟨hc, hst⟩ => hst (hcls hc)
    have hslot : ¬ (g.rank = 7 ∧ (s.promoSlot i).isSome = true) := fun ⟨hrk, hs⟩ => by
      obtain ⟨p, hp⟩ := (s.promoSlot_isSome_iff i).1 hs
      exact hprom hrk p hp
    have hkey : ¬ (a.config.node ≠ g.node ∨ a.config.channel ≠ g.channel) := by simp [hnode, hchan]
    rw [exec_putSource h hm (sourceBytes_length i g), putSourceAct_of_loaded k hr ha, if_neg hkey, hk]
    simp only [Bool.false_eq_true, if_false, State.updateSource, hnone, if_neg h7', if_neg hbusy, if_neg hslot,
      Source.update_eq hcls]
    rfl

section
variable {s : State} {i : SourceIx} {g : SourceConfig} {a : Source}

/-- With its key free, a PUT-SOURCE loads a vacant index and updates a loaded one. -/
theorem putSourceAct_of_key (k : AgentId) (hr : g.rank ≠ 0)
    (h2 : ∀ a ∈ s.source i, a.config.node = g.node ∧ a.config.channel = g.channel) (h3 : s.keyElsewhere i g = false) :
    (∀ a, s.source i = some a → putSourceAct k (sourceBytes i g) s = s.updateSource i g a) ∧
      (s.source i = none → putSourceAct k (sourceBytes i g) s = s.loadSource i g) := by
  refine ⟨fun a ha => ?_, fun hi => ?_⟩
  · obtain ⟨hn, hc⟩ := h2 a ha
    simp [putSourceAct_of_loaded k hr ha, hn, hc, h3]
  · simp [putSourceAct_of_vacant k hr hi, h3]

theorem State.loadSource_of_noNode (hn : s.node g.node = none) : s.loadSource i g = (s, { status := .noEntry }) := by
  simp [State.loadSource, hn, Reply.bare]

theorem State.updateSource_of_noNode (hn : s.node g.node = none) :
    s.updateSource i g a = (s, { status := .noEntry }) := by simp [State.updateSource, hn, Reply.bare]

variable {r : Node} (hn : s.node g.node = some r)
include hn

theorem State.loadSource_of_rank (h : g.rank = 7 ∧ g.cls ≠ .edge) :
    s.loadSource i g = (s, { status := .badArgument }) := by simp [State.loadSource, hn, h, Reply.bare]

theorem State.updateSource_of_rank (h : g.rank = 7 ∧ g.cls ≠ .edge) :
    s.updateSource i g a = (s, { status := .badArgument }) := by simp [State.updateSource, hn, h, Reply.bare]

variable (h5 : ¬ (g.rank = 7 ∧ g.cls ≠ .edge))
include h5

theorem State.updateSource_of_busy (h : g.cls ≠ a.config.cls ∧ a.status ≠ .idle) :
    s.updateSource i g a = (s, { status := .sourceBusy }) := by
  simp only [State.updateSource, hn, Option.isNone_some, Bool.false_eq_true, if_false, if_neg h5, if_pos h, Reply.bare]

theorem State.updateSource_of_promoted (h6 : ¬ (g.cls ≠ a.config.cls ∧ a.status ≠ .idle))
    (h : g.rank = 7 ∧ (s.promoSlot i).isSome = true) : s.updateSource i g a = (s, { status := .badArgument }) := by
  simp only [State.updateSource, hn, Option.isNone_some, Bool.false_eq_true, if_false, if_neg h5, if_neg h6, if_pos h,
    Reply.bare]

end

/-- Settles O25: the checks of R8 in order. -/
theorem putSourceRefusals : Obligations.PutSourceRefusals := by
  refine ⟨fun s f k i n c cl tr rk o ro b h hm hbad => ?bytes, ?checks⟩
  case bytes =>
    rw [exec_putSource h hm rfl]
    simp [putSourceAct, sourceArgs_none i hbad, Reply.bare]
  case checks =>
    intro s f k i g h hm hr answered step2 step3 step4 step5 step6 step7
    have he := exec_putSource h hm (sourceBytes_length i g)
    have hfree : step3 → s.keyElsewhere i g = false := (s.keyElsewhere_eq_false i g).2
    have hpresent : step4 → ∃ r, s.node g.node = some r := Option.isSome_iff_exists.1
    have hrank : step5 → ¬ (g.rank = 7 ∧ g.cls ≠ .edge) := fun h5 ⟨hrk, hc⟩ => hc (h5 hrk)
    have refused {st : ReplyStatus} (hst : putSourceAct k (sourceBytes i g) s = (s, { status := st })) : answered st := by
      dsimp only [answered]
      rw [he, hst]
    refine ⟨fun h2 => ?step2, fun h2 h3 => ?step3, fun h2 h3 h4 => ?step4, fun h2 h3 h4 h5 => ?step5,
      fun h2 h3 h4 h5 h6 => ?step6, fun h2 h3 h4 h5 h6 h7 => ?step7⟩
    case step2 =>
      obtain ⟨a, ha, hne⟩ : ∃ a, s.source i = some a ∧ ¬ (a.config.node = g.node ∧ a.config.channel = g.channel) := by
        simpa [step2] using h2
      exact refused ((putSourceAct_of_loaded k hr ha).trans (if_pos (not_and_or.1 hne)))
    case step3 =>
      have hk := State.keyElsewhere_eq_true h3
      refine refused ?_
      cases hi : s.source i with
      | none => rw [putSourceAct_of_vacant k hr hi, if_pos hk, Reply.bare]
      | some a =>
        obtain ⟨hn, hc⟩ := h2 a hi
        rw [putSourceAct_of_loaded k hr hi, if_neg (by simp [hn, hc]), if_pos hk, Reply.bare]
    case step4 =>
      have hn : s.node g.node = none := by simpa [step4] using h4
      obtain ⟨hl, hv⟩ := putSourceAct_of_key k hr h2 (hfree h3)
      cases hi : s.source i with
      | none => exact refused ((hv hi).trans (State.loadSource_of_noNode hn))
      | some a => exact refused ((hl a hi).trans (State.updateSource_of_noNode hn))
    case step5 =>
      obtain ⟨r, hn⟩ := hpresent h4
      obtain ⟨hl, hv⟩ := putSourceAct_of_key k hr h2 (hfree h3)
      have hbad := Classical.not_imp.1 h5
      cases hi : s.source i with
      | none => exact refused ((hv hi).trans (State.loadSource_of_rank hn hbad))
      | some a => exact refused ((hl a hi).trans (State.updateSource_of_rank hn hbad))
    case step6 =>
      obtain ⟨r, hn⟩ := hpresent h4
      obtain ⟨a, ha, hbusy⟩ : ∃ a, s.source i = some a ∧ ¬ (g.cls = a.config.cls ∨ a.status = .idle) := by
        simpa [step6] using h6
      have hl := (putSourceAct_of_key k hr h2 (hfree h3)).1 a ha
      exact refused (hl.trans (State.updateSource_of_busy hn (hrank h5) (not_or.1 hbusy)))
    case step7 =>
      obtain ⟨r, hn⟩ := hpresent h4
      obtain ⟨a, ha, hrk, p, hp⟩ : ∃ a, s.source i = some a ∧ g.rank = 7 ∧ ∃ p : PromoSlot, s.promotion[p] = some i := by
        simpa [step7, -Fin.getElem_fin] using h7
      have hl := (putSourceAct_of_key k hr h2 (hfree h3)).1 a ha
      have hidle : ¬ (g.cls ≠ a.config.cls ∧ a.status ≠ .idle) := fun ⟨hc, hst⟩ => (h6 a ha).elim hc hst
      exact refused (hl.trans (State.updateSource_of_promoted hn (hrank h5) hidle
        ⟨hrk, (s.promoSlot_isSome_iff i).2 ⟨p, hp⟩⟩))

/-! ## DROP-SOURCE (R13 to R16) -/

theorem dropSourceAct_of_vacant {s : State} {i : SourceIx} (k : AgentId) (h : s.source i = none) :
    dropSourceAct k [byteOf i.val] s = (s, { status := .noEntry }) := by
  simp [dropSourceAct, indexArg_byteOf, h, Reply.bare]

theorem dropSourceAct_of_loaded {s : State} {i : SourceIx} {a : Source} (k : AgentId) (h : s.source i = some a) :
    dropSourceAct k [byteOf i.val] s =
      ((((s.setSource i none).unpromote i).withdraw i a).reEvaluateAll, Reply.done [a.status.byte]) := by
  simp [dropSourceAct, indexArg_byteOf, h]

theorem exec_dropSource {s : State} {f : Frame} {k : AgentId} {b : Byte} (h : s.Sends f k [0x0B#8, b])
    (hm : s.Manages k) :
    exec .dropSource s = .next ((dropSourceAct k [b] s).1.answer f (dropSourceAct k [b] s).2) :=
  exec_managed (c := .dropSource) h hm rfl rfl

/-- No claim is withdrawn of a source that is not HELD (R14). -/
theorem State.withdraw_of_not_held (s : State) (i : SourceIx) {a : Source} (h : ∀ k : AgentId, a.status ≠ .held k) :
    s.withdraw i a = s := by
  unfold State.withdraw
  split
  · rename_i k hk
    exact absurd hk (h k)
  · rfl
  · rfl

theorem State.withdraw_of_held (s : State) (i : SourceIx) {a : Source} {k : AgentId} (h : a.status = .held k) :
    s.withdraw i a = (s.modAgent k (Agent.dropClaim i)).notify k (.withdrawn i) := by simp [State.withdraw, h]

/-- Settles O26: the index is vacant or loaded, and a loaded source HELD or not. -/
theorem dropSourceVacates : Obligations.DropSourceVacates := by
  intro s f k i h hm
  refine ⟨fun hi => ?vacant, ?loaded⟩
  case vacant => rw [exec_dropSource h hm, dropSourceAct_of_vacant k hi]
  case loaded =>
    intro a ha t
    refine ⟨fun hnot => ?_, fun j hj => ?_⟩
    · rw [exec_dropSource h hm, dropSourceAct_of_loaded k ha, State.withdraw_of_not_held _ i hnot]
      rfl
    · rw [exec_dropSource h hm, dropSourceAct_of_loaded k ha, State.withdraw_of_held _ i hj, hj]
      rfl

/-! ## BLOCK, UNBLOCK, FORCE and RELEASE (R18, R19, R38, R39) -/

section
variable {s : State} {k : AgentId} {i : SourceIx}

theorem blockAct_of_vacant (h : s.source i = none) : blockAct k [byteOf i.val] s = (s, { status := .noEntry }) := by
  simp [blockAct, indexArg_byteOf, h, Reply.bare]

theorem unblockAct_of_vacant (h : s.source i = none) : unblockAct k [byteOf i.val] s = (s, { status := .noEntry }) := by
  simp [unblockAct, indexArg_byteOf, h, Reply.bare]

theorem forceAct_of_vacant (h : s.source i = none) : forceAct k [byteOf i.val] s = (s, { status := .noEntry }) := by
  simp [forceAct, indexArg_byteOf, h, Reply.bare]

theorem releaseAct_of_vacant (h : s.source i = none) : releaseAct k [byteOf i.val] s = (s, { status := .noEntry }) := by
  simp [releaseAct, indexArg_byteOf, h, Reply.bare]

variable {a : Source} (h : s.source i = some a)
include h

theorem blockAct_of_loaded : blockAct k [byteOf i.val] s = (s.setBlocked i true a, { status := .ok }) := by
  simp [blockAct, indexArg_byteOf, h, Reply.done]

theorem unblockAct_of_loaded : unblockAct k [byteOf i.val] s = (s.setBlocked i false a, { status := .ok }) := by
  simp [unblockAct, indexArg_byteOf, h, Reply.done]

theorem forceAct_of_loaded : forceAct k [byteOf i.val] s = (s.changeSource i (Source.setForced true),
    { status := .ok, report := [(a.setForced true).status.byte] }) := by simp [forceAct, indexArg_byteOf, h, Reply.done]

theorem releaseAct_of_loaded : releaseAct k [byteOf i.val] s = (s.changeSource i (Source.setForced false),
    { status := .ok, report := [(a.setForced false).status.byte] }) := by
  simp [releaseAct, indexArg_byteOf, h, Reply.done]

end

/-- The blocked flag is written, with a re-evaluation exactly when it changed (R18, R19). -/
theorem State.setBlocked_eq (s : State) (i : SourceIx) (v : Bool) (a : Source) :
    let t : State := { s with sources := s.sources.set i (some { a with config := { a.config with blocked := v } }) }
    (a.config.blocked = v → s.setBlocked i v a = t) ∧ (a.config.blocked ≠ v → s.setBlocked i v a = t.reEvaluateAll) :=
  ⟨fun h => if_pos h, fun h => if_neg h⟩

/-- Settles O27: BLOCK and UNBLOCK are the two values of one flag. -/
theorem blockAndUnblock : Obligations.BlockAndUnblock := by
  intro s f k i v hm h command
  cases v with
  | true =>
    have he := exec_managed (c := .block) h hm rfl rfl
    dsimp only [ReqCode.row, ReqCode.own] at he
    refine ⟨fun hi => he.trans (by rw [blockAct_of_vacant hi]), ?_⟩
    intro a ha t
    rw [blockAct_of_loaded ha] at he
    exact ⟨fun hv => he.trans (by rw [(s.setBlocked_eq i true a).1 hv]),
      fun hv => he.trans (by rw [(s.setBlocked_eq i true a).2 hv])⟩
  | false =>
    have he := exec_managed (c := .unblock) h hm rfl rfl
    dsimp only [ReqCode.row, ReqCode.own] at he
    refine ⟨fun hi => he.trans (by rw [unblockAct_of_vacant hi]), ?_⟩
    intro a ha t
    rw [unblockAct_of_loaded ha] at he
    exact ⟨fun hv => he.trans (by rw [(s.setBlocked_eq i false a).1 hv]),
      fun hv => he.trans (by rw [(s.setBlocked_eq i false a).2 hv])⟩

/-- Settles O28: FORCE and RELEASE are the two values of one reason; FORCE needs RUN. -/
theorem forceAndRelease : Obligations.ForceAndRelease := by
  intro s f k i v hm hrun h command
  cases v with
  | true =>
    have he := exec_own (c := .force) h rfl (fun _ => hm.1) (fun _ => hm.2) fun _ hc => by
      rw [hrun rfl]
      exact Option.some.inj hc
    dsimp only [ReqCode.row, ReqCode.own] at he
    refine ⟨fun hi => ?_, fun a ha => ?_⟩
    · exact he.trans (by rw [forceAct_of_vacant hi])
    · exact he.trans (by rw [forceAct_of_loaded ha])
  | false =>
    have he := exec_managed (c := .release) h hm rfl rfl
    dsimp only [ReqCode.row, ReqCode.own] at he
    refine ⟨fun hi => ?_, fun a ha => ?_⟩
    · exact he.trans (by rw [releaseAct_of_vacant hi])
    · exact he.trans (by rw [releaseAct_of_loaded ha])

end Sys2Proof.Machine
end

section
/-! PROOFS. The end of a session: what its reclaims do to the sources and to the other agents (R42, R59, R67, R68). -/

namespace Sys2Proof.Machine

open Sys2Proof

/-- Two states that agree in every field. -/
theorem State.eq_of_fields {s t : State} (pending : t.pending = s.pending) (mode : t.mode = s.mode)
    (retained : t.retained = s.retained) (role : t.role = s.role) (resyncWait : t.resyncWait = s.resyncWait)
    (resyncTries : t.resyncTries = s.resyncTries) (counters : t.counters = s.counters) (straps : t.straps = s.straps)
    (sources : t.sources = s.sources) (promotion : t.promotion = s.promotion) (agents : t.agents = s.agents)
    (grantNumber : t.grantNumber = s.grantNumber) (nodes : t.nodes = s.nodes) (waitList : t.waitList = s.waitList)
    (slots : t.slots = s.slots) (contacts : t.contacts = s.contacts) (trunk : t.trunk = s.trunk)
    (field : t.field = s.field) (pins : t.pins = s.pins) : t = s := by
  cases s
  cases t
  simp only at *
  subst_vars
  rfl

/-! ## Reclaims of a list of claims -/

/-- The state after the claims of a list are reclaimed, oldest first. -/
def State.reclaimAll (s : State) (k : AgentId) (l : List Claim) : State := l.foldl (fun t c => t.reclaim k c) s

theorem State.afterReclaims_eq (s : State) (k : AgentId) : s.afterReclaims k = s.reclaimAll k (s.agent k).claims := rfl

theorem State.reclaimAll_concat (s : State) (k : AgentId) (l : List Claim) (c : Claim) :
    s.reclaimAll k (l ++ [c]) = (s.reclaimAll k l).reclaim k c := List.foldl_concat ..

/-- A source as the reclaims of a list of claims leave it: what the claim on it consumed is given back. -/
def Source.givenBack (l : List Claim) (i : SourceIx) (a : Source) : Source :=
  (l.find? fun c => decide (c.source = i)).elim a fun c => a.reclaim c.consumed

/-- Each claim gives back to its own source, and no source is claimed twice (R42, R71). -/
theorem State.source_reclaimAll (s : State) (k : AgentId) {l : List Claim} (hn : (l.map Claim.source).Nodup)
    (i : SourceIx) : (s.reclaimAll k l).source i = (s.source i).map (Source.givenBack l i) := by
  induction l using List.reverseRecOn with
  | nil =>
    have hid : Source.givenBack [] i = id := rfl
    rw [hid, Option.map_id]
    rfl
  | append_singleton l c ih =>
    rw [List.map_append, List.nodup_append] at hn
    obtain ⟨hl, -, hdisj⟩ := hn
    rw [State.reclaimAll_concat, State.source_reclaim, ih hl]
    by_cases hc : c.source = i
    · have hnone : l.find? (fun d => decide (d.source = i)) = none := List.find?_eq_none.2 fun d hd hdi =>
        hdisj d.source (List.mem_map_of_mem hd) c.source (by simp) ((of_decide_eq_true hdi).trans hc.symm)
      rw [if_pos hc, Option.map_map]
      congr 1
      funext a
      simp [Source.givenBack, List.find?_append, hnone, hc]
    · rw [if_neg hc]
      congr 1
      funext a
      simp [Source.givenBack, List.find?_append, hc]

theorem State.promotion_reclaimAll (s : State) (k : AgentId) (l : List Claim) :
    (s.reclaimAll k l).promotion = s.promotion :=
  List.foldlRecOn (motive := fun t : State => t.promotion = s.promotion) _ _ rfl fun t ht c _ =>
    (t.reclaim_promotion k c).trans ht

/-- Another agent than the one whose claims are reclaimed can only be alerted, and only while attached (R59). -/
theorem State.agent_reclaim_other (s : State) {k j : AgentId} (c : Claim) (h : k ≠ j) :
    ∃ b : Bool, (b = true → (s.agent j).attached = true) ∧
      (s.reclaim k c).agent j = { s.agent j with alert := (s.agent j).alert || b } := by
  obtain ⟨b, hb, he⟩ := (s.modAgent k (Agent.dropClaim c.source)).agent_changeSource_attached c.source
    (Source.reclaim c.consumed) j
  rw [State.agent_modAgent, if_neg h] at hb he
  exact ⟨b, hb, he⟩

theorem State.agent_reclaimAll_other (s : State) {k j : AgentId} (l : List Claim) (h : k ≠ j) :
    ∃ b : Bool, (b = true → (s.agent j).attached = true) ∧
      (s.reclaimAll k l).agent j = { s.agent j with alert := (s.agent j).alert || b } := by
  induction l using List.reverseRecOn with
  | nil => exact ⟨false, nofun, by rw [Bool.or_false]; rfl⟩
  | append_singleton l c ih =>
    obtain ⟨b, hb, he⟩ := ih
    obtain ⟨b', hb', he'⟩ := (s.reclaimAll k l).agent_reclaim_other c h
    rw [he] at hb' he'
    refine ⟨b || b', fun hbb => ?_, ?_⟩
    · rcases Bool.or_eq_true_iff.1 hbb with h1 | h1
      · exact hb h1
      · exact hb' h1
    · rw [State.reclaimAll_concat, he', Bool.or_assoc]

/-- The agent itself loses claims and may be alerted; the rest of its record stays. -/
theorem State.agent_reclaimAll_self (s : State) (k : AgentId) (l : List Claim) :
    ∃ (cs : List Claim) (b : Bool), (s.reclaimAll k l).agent k = { s.agent k with claims := cs, alert := b } := by
  induction l using List.reverseRecOn with
  | nil => exact ⟨_, _, rfl⟩
  | append_singleton l c ih =>
    obtain ⟨cs, b, he⟩ := ih
    obtain ⟨b', -, he'⟩ := ((s.reclaimAll k l).modAgent k (Agent.dropClaim c.source)).agent_changeSource_attached
      c.source (Source.reclaim c.consumed) k
    rw [State.agent_modAgent_same, he] at he'
    exact ⟨_, _, by rw [State.reclaimAll_concat]; exact he'⟩

/-! ## The end of a session -/

/-- The record the end of a session leaves (Table 4-1). -/
theorem State.agent_endSession_self (s : State) (k : AgentId) : (s.endSession k).agent k = { s.agent k with
    session := .detached, claims := [], marks := [], notices := [], noticesLost := false, alert := false } := by
  obtain ⟨cs, b, he⟩ := s.agent_reclaimAll_self k (s.agent k).claims
  rw [State.agent_endSession, if_pos rfl, State.afterReclaims_eq, he]
  rfl

theorem State.agent_endSession_other (s : State) {k j : AgentId} (h : k ≠ j) :
    ∃ b : Bool, (b = true → (s.agent j).attached = true) ∧
      (s.endSession k).agent j = { s.agent j with alert := (s.agent j).alert || b } := by
  rw [State.agent_endSession, if_neg h]
  exact s.agent_reclaimAll_other _ h

theorem State.source_endSession_eq {s : State} {k : AgentId} (hn : ((s.agent k).claims.map Claim.source).Nodup)
    (i : SourceIx) :
    (s.endSession k).source i = (s.source i).map (Source.givenBack (s.agent k).claims i) := by
  rw [State.source_endSession]
  exact s.source_reclaimAll k hn i

/-- The end of a session changes the agents, the role and the sources alone. -/
theorem State.endSession_rest (s : State) (k : AgentId) :
    { s.endSession k with agents := s.agents, role := s.role, sources := s.sources } = s := by
  apply State.eq_of_fields <;> simp

/-- The reclaimed sources are those of the state with the oldest claims reclaimed. -/
theorem State.sources_reclaimAll_take {s : State} {k : AgentId} (hn : ((s.agent k).claims.map Claim.source).Nodup)
    (m : Nat) : (s.reclaimAll k ((s.agent k).claims.take m)).sources = (s.reclaimed k m).sources := by
  have hm : (((s.agent k).claims.take m).map Claim.source).Nodup := hn.sublist ((List.take_sublist m _).map _)
  refine State.sources_ext fun i => ?_
  rw [State.source_reclaimAll s k hm, State.source_reclaimed]
  congr 1
  funext a
  unfold Source.givenBack
  cases List.find? (fun c => decide (c.source = i)) ((s.agent k).claims.take m) <;> rfl

section
variable {s : State} {k j : AgentId} (hl : s.ClaimLaw) (h : k ≠ j)
include hl h

/-- The attention rank of another agent after some reclaims is that of the state with those claims reclaimed. -/
theorem State.attention_reclaimAll_take (m : Nat) :
    (s.reclaimAll k ((s.agent k).claims.take m)).attention j = (s.reclaimed k m).attention j := by
  obtain ⟨b, -, he⟩ := s.agent_reclaimAll_other ((s.agent k).claims.take m) h
  refine State.attention_congr j (State.sources_reclaimAll_take (hl.2 k) m) ?_ ?_ ?_
  · rw [State.promotion_reclaimAll, State.reclaimed_promotion]
  · rw [he, State.agent_reclaimed]
  · rw [he, State.agent_reclaimed]

/-- Each reclaim finds its source HELD, so it re-evaluates every attached agent (R59): another agent is alerted exactly
when one of the re-evaluations finds its attention rank moved. -/
theorem State.alert_reclaimAll_take (m : Nat) (hm : m ≤ (s.agent k).claims.length) :
    ((s.reclaimAll k ((s.agent k).claims.take m)).agent j).alert = true ↔
      (s.agent j).alert = true ∨ ((s.agent j).session = .attached ∧
        ∃ n : Nat, 1 ≤ n ∧ n ≤ m ∧ (s.reclaimed k n).attention j ≠ (s.agent j).lastSent) := by
  induction m with
  | zero =>
    refine ⟨.inl, fun hx => hx.resolve_right ?_⟩
    rintro ⟨-, n, h1, h0, -⟩
    omega
  | succ m ih =>
    obtain ⟨c, hc⟩ : ∃ c, (s.agent k).claims[m]? = some c := ⟨_, List.getElem?_eq_getElem hm⟩
    have htake : (s.agent k).claims.take (m + 1) = (s.agent k).claims.take m ++ [c] := by
      rw [List.take_add_one, hc]
      rfl
    have hmem : c ∈ (s.agent k).claims := List.mem_of_getElem? hc
    obtain ⟨a, ha, hheld⟩ := (hl.1 c.source k).2 ⟨c, hmem, rfl⟩
    have hnodup : (((s.agent k).claims.take (m + 1)).map Claim.source).Nodup :=
      (hl.2 k).sublist ((List.take_sublist (m + 1) _).map _)
    have hsource : (s.reclaimAll k ((s.agent k).claims.take m)).source c.source = some a := by
      rw [htake, List.map_append, List.nodup_append] at hnodup
      obtain ⟨hn, -, hdisj⟩ := hnodup
      have hnone : ((s.agent k).claims.take m).find? (fun d => decide (d.source = c.source)) = none :=
        List.find?_eq_none.2 fun d hd hdi =>
          hdisj d.source (List.mem_map_of_mem hd) c.source (by simp) (of_decide_eq_true hdi)
      rw [State.source_reclaimAll s k hn, ha]
      simp [Source.givenBack, hnone]
    have hstep := State.agent_reclaim_held hsource hheld j
    rw [if_neg (Ne.symm h)] at hstep
    obtain ⟨b, -, he⟩ := s.agent_reclaimAll_other ((s.agent k).claims.take m) h
    have hatt := State.attention_reclaimAll_take hl h (m + 1)
    rw [htake, State.reclaimAll_concat] at hatt ⊢
    rw [hstep]
    dsimp only
    rw [hatt, Bool.or_eq_true, ih (Nat.le_of_succ_le hm), Bool.and_eq_true, decide_eq_true_eq, he, Agent.attached_iff,
      or_assoc]
    refine or_congr Iff.rfl ?_
    constructor
    · rintro (⟨hs, n, h1, hn, hne⟩ | ⟨hs, hne⟩)
      · exact ⟨hs, n, h1, Nat.le_succ_of_le hn, hne⟩
      · exact ⟨hs, m + 1, Nat.succ_pos m, Nat.le_refl _, hne⟩
    · rintro ⟨hs, n, h1, hn, hne⟩
      rcases Nat.lt_or_eq_of_le hn with hlt | rfl
      · exact .inl ⟨hs, n, h1, Nat.le_of_lt_succ hlt, hne⟩
      · exact .inr ⟨hs, hne⟩

end

/-- The end of a session is what Table 4-1 and R67 say. -/
theorem State.sessionEnded_endSession {s : State} (hl : s.ClaimLaw) (k : AgentId) : s.SessionEnded k (s.endSession k) := by
  refine ⟨s.agent_endSession_self k, fun j hj => ⟨?_, ?_⟩, s.role_endSession k, fun i => ?_, s.endSession_rest k⟩
  · obtain ⟨b, -, he⟩ := s.agent_endSession_other (Ne.symm hj)
    rw [he]
  · have hall := State.alert_reclaimAll_take hl (Ne.symm hj) _ (Nat.le_refl _)
    rw [List.take_length, ← State.afterReclaims_eq] at hall
    rw [State.agent_endSession, if_neg (Ne.symm hj)]
    exact hall
  · rw [State.source_endSession_eq (hl.2 k)]
    congr 1
    funext a
    unfold Source.givenBack Agent.claimOn
    cases List.find? (fun c => decide (c.source = i)) (s.agent k).claims <;> rfl

/-- Settles O14: a LEAVE ends the session of its agent. -/
theorem leaveEndsSession : Obligations.LeaveEndsSession := by
  intro s f k h hj hl
  refine ⟨s.endSession k, State.sessionEnded_endSession hl k, ?_⟩
  exact exec_own (c := .leave) h rfl (fun _ => hj) nofun nofun

end Sys2Proof.Machine
end

section
/-! PROOFS. The loss of the trunk link ends every session (R68, R151, R156). -/

namespace Sys2Proof.Machine

open Sys2Proof

/-- A source as the end of the sessions of the agents of `l` leaves it: what a claim of theirs consumed is given back. -/
def Source.endedBy (s : State) (l : List AgentId) (i : SourceIx) (a : Source) : Source :=
  match a.status with
  | .held k => if k ∈ l then Source.givenBack (s.agent k).claims i a else a
  | .idle => a
  | .pending => a

/-- Between `s` and `u` the sessions of the agents of `l` have ended. -/
structure State.Ended (s u : State) (l : List AgentId) : Prop where
  ended : ∀ j ∈ l, u.agent j = (s.agent j).detach
  others : ∀ j ∉ l, ∃ b : Bool, (b = true → (s.agent j).attached = true) ∧
    u.agent j = { s.agent j with alert := (s.agent j).alert || b }
  role : u.role = if ∃ k ∈ l, s.role = some k then none else s.role
  source : ∀ i, u.source i = (s.source i).map (Source.endedBy s l i)

/-- No session has ended yet. -/
theorem State.ended_nil (s : State) : s.Ended s [] where
  ended := nofun
  others _ _ := ⟨false, nofun, by rw [Bool.or_false]⟩
  role := by simp
  source i := by
    have hid : Source.endedBy s [] i = id := by
      funext a
      unfold Source.endedBy
      split <;> simp
    rw [hid, Option.map_id]
    rfl

/-- An agent without a session has nothing to clear (R64). -/
theorem Agent.detach_of_detached {s : State} (hdet : s.DetachedLaw) (hlist : s.ListLaw) {k : AgentId}
    (h : (s.agent k).attached = false) : (s.agent k).detach = s.agent k := by
  obtain ⟨hc, hm, hn, ha⟩ := hdet k h
  obtain ⟨-, -, -, hlost, -⟩ := hlist k
  have hs := (Agent.not_attached_iff _).1 h
  have hl : (s.agent k).noticesLost = false := Bool.eq_false_iff.2 fun ht => by
    have := hlost ht
    simp [hn] at this
  unfold Agent.detach
  cases hag : s.agent k
  simp_all

section
variable {s : State} (hclaim : s.ClaimLaw)
include hclaim

/-- A claim of agent `k` on a source is given back exactly when the source is HELD by `k`. -/
theorem Source.endedBy_concat {l : List AgentId} {k : AgentId} (hk : k ∉ l) {i : SourceIx} {a : Source}
    (ha : s.source i = some a) :
    Source.givenBack (s.agent k).claims i (Source.endedBy s l i a) = Source.endedBy s (l ++ [k]) i a := by
  have hfree (h : a.status ≠ .held k) (b : Source) : Source.givenBack (s.agent k).claims i b = b := by
    have hnone : (s.agent k).claims.find? (fun c => decide (c.source = i)) = none := List.find?_eq_none.2 fun c hc hci => by
      obtain ⟨b, hb, hbk⟩ := (hclaim.1 i k).2 ⟨c, hc, of_decide_eq_true hci⟩
      rw [hb] at ha
      cases ha
      exact h hbk
    simp [Source.givenBack, hnone]
  unfold Source.endedBy
  split
  · rename_i h hst
    by_cases hhk : h = k
    · subst hhk
      simp [hk]
    · rw [hfree (by rw [hst]; exact fun he => hhk (Status.held.inj he))]
      simp [hhk]
  · rename_i hst
    exact hfree (by rw [hst]; nofun) a
  · rename_i hst
    exact hfree (by rw [hst]; nofun) a

variable (hdet : s.DetachedLaw) (hlist : s.ListLaw) (hrole : s.RoleLaw)
include hdet hlist hrole

/-- One more session ends, if there is one. -/
theorem State.Ended.concat {u : State} {l : List AgentId} (h : s.Ended u l) {k : AgentId} (hk : k ∉ l) :
    s.Ended (u.endIfAttached k) (l ++ [k]) := by
  obtain ⟨b, hb, hu⟩ := h.others k hk
  have hatt : (u.agent k).attached = (s.agent k).attached := by rw [hu]; rfl
  have hin {j : AgentId} (hj : j ∈ l ++ [k]) : j ∈ l ∨ j = k := by simpa using hj
  have hout {j : AgentId} (hj : j ∉ l ++ [k]) : j ∉ l ∧ k ≠ j := by
    simp only [List.mem_append, List.mem_singleton, not_or] at hj
    exact ⟨hj.1, Ne.symm hj.2⟩
  unfold State.endIfAttached
  cases ha : (s.agent k).attached with
  | false =>
    rw [hatt, ha, if_neg (by simp)]
    have hself : u.agent k = s.agent k := by
      have hbf : b = false := Bool.eq_false_iff.2 fun ht => by simp [hb ht] at ha
      rw [hu, hbf, Bool.or_false]
    refine ⟨fun j hj => ?_, fun j hj => h.others j (hout hj).1, ?_, fun i => ?_⟩
    · rcases hin hj with hj | rfl
      · exact h.ended j hj
      · rw [hself, Agent.detach_of_detached hdet hlist ha]
    · rw [h.role]
      have hnot : s.role ≠ some k := fun hr => by simp [hrole k hr] at ha
      simp [hnot]
    · rw [h.source i]
      cases hs : s.source i with
      | none => rfl
      | some a =>
        have hnil : (s.agent k).claims = [] := (hdet k ha).1
        rw [Option.map_some, Option.map_some, ← Source.endedBy_concat hclaim hk hs, hnil]
        rfl
  | true =>
    rw [hatt, ha, if_pos rfl]
    have hclaims : (u.agent k).claims = (s.agent k).claims := by rw [hu]
    refine ⟨fun j hj => ?_, fun j hj => ?_, ?_, fun i => ?_⟩
    · by_cases hjk : k = j
      · subst hjk
        rw [State.agent_endSession_self, hu]
        rfl
      · obtain ⟨b', hb', he⟩ := u.agent_endSession_other hjk
        have hd := h.ended j ((hin hj).resolve_right (Ne.symm hjk))
        rw [hd] at hb' he
        have hbf : b' = false := Bool.eq_false_iff.2 fun ht => by simpa [Agent.detach, Agent.attached] using hb' ht
        rw [he, hbf]
        rfl
    · obtain ⟨hjl, hjk⟩ := hout hj
      obtain ⟨b1, hb1, he1⟩ := h.others j hjl
      obtain ⟨b2, hb2, he2⟩ := u.agent_endSession_other hjk
      rw [he1] at hb2 he2
      refine ⟨b1 || b2, fun hbb => (Bool.or_eq_true_iff.1 hbb).elim hb1 hb2, ?_⟩
      rw [he2, Bool.or_assoc]
    · rw [State.role_endSession, h.role]
      by_cases hl : ∃ m ∈ l, s.role = some m
      · have hl' : ∃ m ∈ l ++ [k], s.role = some m := by
          obtain ⟨m, hm, hr⟩ := hl
          exact ⟨m, List.mem_append_left _ hm, hr⟩
        rw [if_pos hl, if_pos hl', if_neg nofun]
      · rw [if_neg hl]
        by_cases hr : s.role = some k
        · have hl' : ∃ m ∈ l ++ [k], s.role = some m := ⟨k, by simp, hr⟩
          rw [if_pos hr, if_pos hl']
        · have hl' : ¬ ∃ m ∈ l ++ [k], s.role = some m := by
            rintro ⟨m, hm, hrm⟩
            rcases hin hm with hm | rfl
            · exact hl ⟨m, hm, hrm⟩
            · exact hr hrm
          rw [if_neg hr, if_neg hl']
    · rw [State.source_endSession_eq (by rw [hclaims]; exact hclaim.2 k), hclaims, h.source i]
      cases hs : s.source i with
      | none => rfl
      | some a =>
        rw [Option.map_some, Option.map_some, Option.map_some, Source.endedBy_concat hclaim hk hs]

theorem State.ended_foldl (l : List AgentId) (hn : l.Nodup) : s.Ended (l.foldl State.endIfAttached s) l := by
  induction l using List.reverseRecOn with
  | nil => exact s.ended_nil
  | append_singleton l k ih =>
    rw [List.nodup_append] at hn
    obtain ⟨hl, -, hdisj⟩ := hn
    rw [List.foldl_concat]
    exact State.Ended.concat hclaim hdet hlist hrole (ih hl) fun hk => hdisj k hk k (by simp) rfl

/-- Every session has ended. -/
theorem State.ended_endSessions : s.Ended s.endSessions (List.finRange 4) :=
  State.ended_foldl hclaim hdet hlist hrole _ (List.nodup_finRange 4)

end

/-! ## SILENCE_TIMEOUT of the trunk port (R151, R156) -/

/-- The state in which the trunk port has lost its link and the queue is counted, before the sessions end. -/
def State.trunkDropped (s : State) : State :=
  ({ s with trunk := s.trunk.enterQuiet Config.receiveBuffers } : State).count (Counters.addFlushed s.trunk.queue.length)

theorem State.trunkLinkDown_eq (s : State) : s.trunkLinkDown =
    if s.field.hold = true then s.trunkDropped.endSessions.finishField.count Counters.addDropped
    else s.trunkDropped.endSessions := rfl

/-- The sources as every session's end leaves them: each HELD one gets back what its holder's claim consumed. -/
theorem Source.endedBy_all (s : State) (i : SourceIx) (a : Source) :
    Source.endedBy s (List.finRange 4) i a = match a.status with
      | .held k => (match (s.agent k).claimOn i with
        | some c => a.reclaim c.consumed
        | none => a)
      | .idle => a
      | .pending => a := by
  unfold Source.endedBy
  cases a.status with
  | held k =>
    dsimp only
    rw [if_pos (List.mem_finRange k), Source.givenBack, ← Agent.claimOn]
    cases (s.agent k).claimOn i <;> rfl
  | idle => rfl
  | pending => rfl

/-- Settles O47: the port, the counters and the frame in hand by the definition of the link loss; the agents, the role and
the sources by the end of every session. -/
theorem trunkSilenceLosesLink : Obligations.TrunkSilenceLosesLink := by
  refine ⟨fun s h => if_neg h, fun s h hclaim hdet hlist hrole => ?_⟩
  have hend : s.trunkDropped.Ended s.trunkDropped.endSessions (List.finRange 4) :=
    State.ended_endSessions (s := s.trunkDropped) hclaim hdet hlist hrole
  have hagent (k : AgentId) : s.trunkDropped.endSessions.agent k = (s.agent k).detach := hend.ended k (List.mem_finRange k)
  have hsource (i : SourceIx) := (hend.source i).trans (congrArg (fun g => (s.source i).map g)
    (funext fun a => Source.endedBy_all s.trunkDropped i a))
  have hrole : s.trunkDropped.endSessions.role = none := by
    rw [hend.role]
    cases hr : s.trunkDropped.role with
    | none => simp
    | some k => rw [if_pos ⟨k, List.mem_finRange k, rfl⟩]
  refine ⟨s.trunkLinkDown, if_pos h, ?_⟩
  by_cases hh : s.field.hold = true
  · simp only [State.trunkLinkDown_eq, if_pos hh]
    refine ⟨?_, ?_, ?_, ?_, fun k => ?_, fun i => ?_, ?_⟩
    · simp [State.trunkDropped, Line.enterQuiet]
    · simp [State.trunkDropped]
    · simp [State.trunkDropped, Counters.addFlushed, Counters.addDropped]
    · rw [State.count_role, State.finishField_role]
      exact hrole
    · rw [State.count_agent, State.finishField_agent]
      exact hagent k
    · rw [State.count_source, State.finishField_source]
      exact hsource i
    · apply State.eq_of_fields <;> simp [State.trunkDropped]
  · simp only [State.trunkLinkDown_eq, if_neg hh]
    refine ⟨?_, ?_, ?_, hrole, hagent, hsource, ?_⟩
    · simp [State.trunkDropped, Line.enterQuiet]
    · simp [State.trunkDropped]
    · simp [State.trunkDropped, Counters.addFlushed]
    · apply State.eq_of_fields <;> simp [State.trunkDropped]

end Sys2Proof.Machine
end

section
/-! PROOFS. Service timers, notices, and the frames that are no request (Sections 4.3, 4.4, 7.1 and 10.1). -/

namespace Sys2Proof.Machine

open Sys2Proof

/-! ## SERVICE_TIMER_EXPIRY (R79 to R81) -/

/-- On a list that holds no source twice, the claim found is the one on the source (R71). -/
theorem Agent.claimOn_eq_some_iff {a : Agent} (hn : (a.claims.map Claim.source).Nodup) (i : SourceIx) (c : Claim) :
    a.claimOn i = some c ↔ c ∈ a.claims ∧ c.source = i := by
  refine ⟨a.claimOn_some i c, fun ⟨hc, hi⟩ => ?_⟩
  obtain ⟨d, hd⟩ := Option.isSome_iff_exists.1 ((a.claimOn_isSome i).2 ⟨c, hc, hi⟩)
  obtain ⟨hmem, hsrc⟩ := a.claimOn_some i d hd
  rw [hd, List.inj_on_of_nodup_map hn hmem hc (hsrc.trans hi.symm)]

theorem exec_serviceTimerExpiry_of_timer {s : State} {k : AgentId} {i : SourceIx} {c : Claim}
    (h : (s.agent k).claimOn i = some c) (hd : c.deadline ≠ none) :
    exec (.serviceTimerExpiry k.val i.val) s = .next (s.expire k c) := by
  have hsome : c.deadline.isSome = true := Option.isSome_iff_ne_none.2 hd
  simp only [exec, execServiceTimerExpiry, k.isLt, i.isLt, dif_pos, Fin.eta, h, hsome, if_true]

theorem exec_serviceTimerExpiry_of_no_timer {s : State} {k : AgentId} {i : SourceIx}
    (h : ∀ c ∈ (s.agent k).claimOn i, c.deadline = none) : exec (.serviceTimerExpiry k.val i.val) s = .next s := by
  simp only [exec, execServiceTimerExpiry, k.isLt, i.isLt, dif_pos, Fin.eta]
  cases hc : (s.agent k).claimOn i with
  | none => rfl
  | some c => simp [h c hc]

/-- Settles O21: the claim found is the claim on the source, and its expiry is written out. -/
theorem serviceTimerExpires : Obligations.ServiceTimerExpires := by
  refine ⟨fun a i hn => ⟨Agent.claimOn_eq_some_iff hn i, a.claimOn_none i⟩, ?expires, fun s k i h =>
    exec_serviceTimerExpiry_of_no_timer h⟩
  case expires =>
    intro s k i c hc hd dropped t marks marked
    obtain ⟨-, rfl⟩ := (s.agent k).claimOn_some i c hc
    exact exec_serviceTimerExpiry_of_timer hc hd

/-! ## Notices (R83 to R85, R170) -/

theorem State.notify_eq (s : State) (k : AgentId) (n : Notice) :
    s.notify k n = { s with agents := s.agents.set k (
      if (s.agent k).session = .detached then s.agent k
      else if (s.agent k).notices.length < 8 then { s.agent k with notices := (s.agent k).notices ++ [n] }
      else { s.agent k with noticesLost := true }) } := by
  unfold State.notify State.modAgent State.setAgent Agent.putNotice
  cases hs : (s.agent k).session <;> simp [Agent.attached, hs]

theorem State.notifyFlagged_agent_eq (s : State) (n : Notice) (k : AgentId) : (s.notifyFlagged n).agent k =
    if (s.agent k).noticeFlag = true then (s.notify k n).agent k else s.agent k := by
  rw [State.agent_notifyFlagged, State.agent_notify]
  cases hf : (s.agent k).noticeFlag <;> cases ha : (s.agent k).attached <;> simp

/-- The lowest-numbered agent with a notice (log 7). -/
theorem State.noticeReady_eq_some {s : State} {k : AgentId} (hk : (s.agent k).notices ≠ [])
    (hlow : ∀ j : AgentId, j < k → (s.agent j).notices = []) : s.noticeReady = some k := by
  refine find?_finRange_eq_some.2 ⟨by simpa using hk, fun j hj => by simp [hlow j hj]⟩

theorem State.noticeReady_eq_none {s : State} (h : ∀ k : AgentId, (s.agent k).notices = []) : s.noticeReady = none :=
  find?_finRange_eq_none.2 fun k => by simp [h k]

/-- Settles O22: the put, the flagged put, and the move of the first notice there is. -/
theorem noticesMove : Obligations.NoticesMove := by
  refine ⟨fun s k n => s.notify_eq k n, fun s n => ⟨s.notifyFlagged_agent_eq n, rfl⟩, fun s k n rest hq hn hlow => ?moved,
    fun s h => ?idle⟩
  case moved =>
    have hready : s.noticeReady = some k := State.noticeReady_eq_some (by simp [hn]) hlow
    change execMoveNotice s = _
    unfold execMoveNotice
    rw [if_pos hq, hready]
    dsimp only
    rw [hn]
    rfl
  case idle =>
    change execMoveNotice s = _
    unfold execMoveNotice
    rcases h with hq | hn
    · rw [if_neg (Nat.not_lt.2 hq)]
    · rw [State.noticeReady_eq_none hn]
      exact ite_self _

/-! ## Trunk frames that are no request (R126 to R128, Table 7-1) -/

section
variable {s : State} {f : Frame}

theorem stationOf_isSome {b : Byte} (h1 : 1 ≤ b.toNat) (h63 : b.toNat ≤ 63) : ∃ n, stationOf b = some n :=
  Option.ne_none_iff_exists'.1 fun hn => (stationOf_eq_none b).1 hn ⟨h1, h63⟩

theorem State.classify_of_station {n : NodeId} (hn : stationOf f.dest = some n) (hk : f.kind = 0x01#8) :
    s.classify f = .forward n := by
  unfold State.classify
  rw [hn]
  exact if_pos hk

theorem State.classify_of_request (hd : f.dest = 0xF0#8 + s.straps.setWidth 8) (hk : f.kind = 0x10#8)
    (ho : 0xE0 ≤ f.orig.toNat ∧ f.orig.toNat ≤ 0xE3) : ∃ k, s.classify f = .request k := by
  obtain ⟨k, hk'⟩ := Option.isSome_iff_exists.1 ((agentOf_isSome f.orig).2 ho)
  refine ⟨k, ?_⟩
  unfold State.classify
  rw [hd, stationOf_partAddr]
  simp [State.partAddr_eq, hk, hk', Config.kindReq]

/-- A frame that is neither forwarded nor a request is foreign. -/
theorem State.classify_of_foreign (hf : ¬ (1 ≤ f.dest.toNat ∧ f.dest.toNat ≤ 63 ∧ f.kind = 0x01#8))
    (hr : ¬ (f.dest = 0xF0#8 + s.straps.setWidth 8 ∧ f.kind = 0x10#8 ∧ 0xE0 ≤ f.orig.toNat ∧ f.orig.toNat ≤ 0xE3)) :
    s.classify f = .foreign := by
  cases hc : s.classify f with
  | foreign => rfl
  | forward n =>
    refine absurd hc (State.classify_not_forward ?_ n)
    by_cases hk : f.kind = 0x01#8
    · by_contra hn
      exact hf ⟨by omega, by omega, hk⟩
    · exact .inr (.inr hk)
  | request k =>
    refine absurd hc (State.classify_not_request ?_ k)
    by_contra hn
    simp only [not_or, not_not, Nat.not_lt] at hn
    exact hr hn

theorem execForeignFrame_of_foreign (h : s.Takes f) (hc : s.classify f = .foreign) :
    exec .foreignFrame s = .next (s.finishTrunk.count Counters.addForeign) := by
  simp only [exec, execForeignFrame, State.trunkHead_of_takes h, hc]

theorem execForeignFrame_of_not_foreign (h : s.Takes f) (hc : s.classify f ≠ .foreign) :
    exec .foreignFrame s = .next s := by
  simp only [exec, execForeignFrame, State.trunkHead_of_takes h]
  split
  · rename_i hf
    exact absurd hf hc
  · rfl
  · rfl

end

/-- Settles O41: the class of the frame decides, then the presence of its node, then the room in the queue. -/
theorem trunkFramesSorted : Obligations.TrunkFramesSorted := by
  refine ⟨?foreign, fun s f n h h0 hd hk => ?data, fun s f hh hf hq => ?placed, fun s h => ?idle⟩
  case foreign =>
    intro s f h forwarded request
    refine ⟨fun hf hr => execForeignFrame_of_foreign h (State.classify_of_foreign hf hr), fun hfr => ?_⟩
    refine execForeignFrame_of_not_foreign h ?_
    rcases hfr with ⟨h1, h63, hk⟩ | ⟨hd, hk, ho⟩
    · obtain ⟨n, hn⟩ := stationOf_isSome h1 h63
      rw [State.classify_of_station hn hk]
      nofun
    · obtain ⟨k, hc⟩ := State.classify_of_request hd hk ho
      rw [hc]
      nofun
  case data =>
    have hc : s.classify f = .forward n := State.classify_of_station (by rw [hd]; exact stationOf_node n h0) hk
    have he : exec .trunkDataTaken s = if (s.node n).isSome then .next { s with trunk := { s.trunk with hold := true } }
        else .next (s.finishTrunk.count Counters.addMisdirected) := by
      simp only [exec, execTrunkDataTaken, State.trunkHead_of_takes h, hc]
    refine ⟨fun hn => ?_, fun hn => ?_⟩
    · rw [he, hn]
      rfl
    · rw [he, if_pos (Option.isSome_iff_ne_none.2 hn)]
  case placed =>
    simp only [exec, execTrunkDataPlaced, Line.inHand_of_hold hh hf]
    exact if_pos hq
  case idle =>
    simp only [exec, execTrunkDataPlaced]
    split
    · rename_i f hf
      refine if_neg fun hq => ?_
      rcases h with h | h | h
      · simp [Line.inHand_eq_none (.inl h)] at hf
      · simp [Line.inHand_eq_none (.inr h)] at hf
      · exact absurd hq (Nat.not_lt.2 h)
    · rfl

/-! ## Field frames that are no report of a node (R94, R106, R159, R160, R167) -/

section
variable {s : State} {f : Frame}

theorem State.intakeFree_eq_false (h : s.mode = .standby ∨ s.field.link ≠ .up ∨ s.field.hold = true) :
    s.intakeFree = false := by
  rcases h with h | h | h <;> simp [State.intakeFree, h]

theorem State.fieldHead_eq_none (h : s.mode = .standby ∨ s.field.link ≠ .up ∨ s.field.hold = true ∨ s.field.rx = [])
    (kind : Byte) : s.fieldHead kind = none := by
  unfold State.fieldHead
  rcases h with h | h | h | h
  · simp [State.intakeFree_eq_false (.inl h)]
  · simp [State.intakeFree_eq_false (.inr (.inl h))]
  · simp [State.intakeFree_eq_false (.inr (.inr h))]
  · simp [h]

/-- The oldest field frame is of another kind. -/
theorem State.fieldHead_of_other (h : s.Intakes f) {kind : Byte} (hk : f.kind ≠ kind) : s.fieldHead kind = none := by
  obtain ⟨hm, hl, hh, hf⟩ := h
  simp [State.fieldHead, State.intakeFree, hm, hl, hh, hf, Option.filter, hk]

theorem execEvt_of_no_head (h : s.fieldHead Config.kindEvt = none) : exec .evt s = .next s := by
  simp only [exec, execEvt, h]

theorem execState_of_no_head (h : s.fieldHead Config.kindState = none) : exec .state s = .next s := by
  simp only [exec, execState, h]

theorem execFieldDataTaken_of_no_head (h : s.fieldHead Config.kindData = none) : exec .fieldDataTaken s = .next s := by
  simp only [exec, execFieldDataTaken, h]

theorem execStrayFrame_of_waiting
    (h : s.mode = .standby ∨ s.field.link ≠ .up ∨ s.field.hold = true ∨ s.field.rx = []) :
    exec .strayFrame s = .next s := by
  simp only [exec, execStrayFrame]
  rcases h with h | h | h | h
  · simp [State.intakeFree_eq_false (.inl h)]
  · simp [State.intakeFree_eq_false (.inr (.inl h))]
  · simp [State.intakeFree_eq_false (.inr (.inr h))]
  · simp [h]

theorem execStrayFrame_of_intakes (h : s.Intakes f) : exec .strayFrame s =
    if f.kind = 0x02#8 ∨ f.kind = 0x03#8 ∨ f.kind = 0x01#8 then .next s else .next s.dropStray := by
  obtain ⟨hm, hl, hh, hf⟩ := h
  obtain ⟨rest, hx⟩ := List.head?_eq_some_iff.1 hf
  have hfree : s.intakeFree = true := by simp [State.intakeFree, hm, hl, hh]
  simp only [exec, execStrayFrame, hfree, if_true, hx]

theorem transitionOf_none {b : Byte} (h : ¬ (1 ≤ b.toNat ∧ b.toNat ≤ 3)) : transitionOf b = none := by
  have h1 : b ≠ 1#8 := by rintro rfl; exact h (by decide)
  have h2 : b ≠ 2#8 := by rintro rfl; exact h (by decide)
  have h3 : b ≠ 3#8 := by rintro rfl; exact h (by decide)
  simp [transitionOf, h1, h2, h3]

/-- A malformed EVT (Table 11-3, R167). -/
theorem evtOf_none {p : List Byte} (h : ¬ ∃ c t q : Byte, p = [c, t, q] ∧ c.toNat ≤ 15 ∧ 1 ≤ t.toNat ∧ t.toNat ≤ 3) :
    evtOf p = none := by
  unfold evtOf
  split
  · rename_i c t q
    by_cases hc : c.toNat ≤ 15
    · rw [transitionOf_none fun ht => h ⟨c, t, q, rfl, hc, ht⟩]
      simp
    · rw [below_none (n := 16) c (by omega)]
  · rfl

theorem stateOf_none {p : List Byte} (h : p.length ≠ 3) : stateOf p = none := by
  unfold stateOf
  split
  · exact absurd rfl h
  · rfl

/-- An EVT that is malformed or from no present field node is a stray. -/
theorem execEvt_of_stray (h : s.fieldHead Config.kindEvt = some f)
    (hbad : s.fieldNode f.orig = none ∨ evtOf f.payload = none) : exec .evt s = .next s.dropStray := by
  simp only [exec, execEvt, h]
  rcases hbad with hn | hp
  · rw [hn]
    cases evtOf f.payload <;> rfl
  · rw [hp]

theorem execState_of_stray (h : s.fieldHead Config.kindState = some f)
    (hbad : s.fieldNode f.orig = none ∨ stateOf f.payload = none) : exec .state s = .next s.dropStray := by
  simp only [exec, execState, h]
  rcases hbad with hn | hp
  · rw [hn]
    cases stateOf f.payload <;> rfl
  · rw [hp]

theorem execFieldDataTaken_of_data (h : s.fieldHead Config.kindData = some f) : exec .fieldDataTaken s =
    if (s.fieldNode f.orig).isNone then .next s.dropStray
    else if s.trunk.link = .up then .next { s with field := { s.field with hold := true } }
    else .next (s.finishField.count Counters.addDropped) := by
  simp only [exec, execFieldDataTaken, h]

end

/-- Settles O42: the waiting of every frame, then the kind, then what makes a stray, and the DATA of a present node. -/
theorem fieldFramesSorted : Obligations.FieldFramesSorted := by
  refine ⟨fun s h c hc => ?waits, fun s f h => ?kinds, ?strays, fun s f n h hk h0 ho hn => ?data,
    fun s f hh hf hq => ?placed, fun s h => ?idle⟩
  case waits =>
    have hnone := State.fieldHead_eq_none h
    simp only [List.mem_cons, List.not_mem_nil, or_false] at hc
    rcases hc with rfl | rfl | rfl | rfl
    · exact execEvt_of_no_head (hnone _)
    · exact execState_of_no_head (hnone _)
    · exact execFieldDataTaken_of_no_head (hnone _)
    · exact execStrayFrame_of_waiting h
  case kinds =>
    refine ⟨fun hk => execEvt_of_no_head (State.fieldHead_of_other h hk),
      fun hk => execState_of_no_head (State.fieldHead_of_other h hk),
      fun hk => execFieldDataTaken_of_no_head (State.fieldHead_of_other h hk), fun hk => ?_⟩
    rw [execStrayFrame_of_intakes h, if_pos]
    tauto
  case strays =>
    intro s f h dropped unknown goodEvt
    have hhead := State.fieldHead_of_intakes h
    have hnode : unknown → s.fieldNode f.orig = none := State.fieldNode_eq_none
    refine ⟨fun hk hbad => ?_, fun hk hbad => ?_, fun hk hu => ?_, fun h1 h2 h3 => ?_⟩
    · rw [hk] at hhead
      exact execEvt_of_stray hhead (hbad.imp hnode evtOf_none)
    · rw [hk] at hhead
      exact execState_of_stray hhead (hbad.imp hnode stateOf_none)
    · rw [hk] at hhead
      rw [execFieldDataTaken_of_data hhead, hnode hu]
      rfl
    · rw [execStrayFrame_of_intakes h, if_neg (by simp [h1, h2, h3])]
      rfl
  case data =>
    obtain ⟨r, hr⟩ := Option.ne_none_iff_exists'.1 hn
    have hhead := State.fieldHead_of_intakes h
    rw [hk] at hhead
    have he := execFieldDataTaken_of_data hhead
    rw [ho, State.fieldNode_byteOf h0 hr] at he
    exact ⟨fun hl => he.trans (if_neg hl), fun hl => he.trans (if_pos hl)⟩
  case placed =>
    simp only [exec, execFieldDataPlaced, Line.inHand_of_hold hh hf]
    exact if_pos hq
  case idle =>
    simp only [exec, execFieldDataPlaced]
    split
    · rename_i f hf
      refine if_neg fun hq => ?_
      rcases h with h | h | h
      · simp [Line.inHand_eq_none (.inl h)] at hf
      · simp [Line.inHand_eq_none (.inr h)] at hf
      · exact absurd hq (Nat.not_lt.2 h)
    · rfl

/-! ## RESTART (R145) -/

/-- Settles O40: the marked reply keeps every trunk frame waiting. -/
theorem restartMarksReply : Obligations.RestartMarksReply := by
  intro s f k h hm t
  have he : exec .restart s = .next t := exec_managed (c := .restart) h hm rfl rfl
  have hmark : ∃ e ∈ t.trunk.queue, e.restart = true := by
    refine ⟨{ frame := s.replyFrame f { status := .ok, report := [s.mode.byte], restart := true }, restart := true },
      ?_, rfl⟩
    exact List.mem_append_right _ (List.mem_singleton.2 rfl)
  obtain ⟨hrows, hdata⟩ := requestsWait.1 t
  obtain ⟨hreq, hundef⟩ := hrows (.inl (.inr (.inl hmark)))
  obtain ⟨hforeign, htaken⟩ := hdata (.inr (.inl hmark))
  exact ⟨he, hreq, hundef, hforeign, htaken⟩

end Sys2Proof.Machine
end

section
/-! PROOFS. The resync engine's queries and timers, the sample event, RESUME, the loss of the field link and the resets. -/

namespace Sys2Proof.Machine

open Sys2Proof

/-! ## PLACE_SYNCQ (R101) -/

/-- The lowest slot that owes a query (R101). -/
theorem State.owingSlot_eq_some {s : State} {j : SlotId} {e : Slot} (he : s.slots[j] = some e) (hp : e.phase = .queryOwed)
    (hlow : ∀ m : SlotId, m < j → ∀ g ∈ s.slots[m], g.phase ≠ .queryOwed) : s.owingSlot = some j := by
  refine find?_finRange_eq_some.2 ⟨?_, fun m hm => ?_⟩
  · rw [he]
    simp [Slot.owes, hp]
  · cases hs : s.slots[m] with
    | none => rfl
    | some g => simp [Slot.owes, hlow m hm g hs]

theorem State.owingSlot_eq_none {s : State} (h : ∀ j : SlotId, ∀ e ∈ s.slots[j], e.phase ≠ .queryOwed) :
    s.owingSlot = none := by
  refine find?_finRange_eq_none.2 fun j => ?_
  cases hs : s.slots[j] with
  | none => rfl
  | some g => simp [Slot.owes, h j g hs]

/-- Settles O34: the lowest owing slot and the room in the queue decide. -/
theorem placeSyncqQueuesQuery : Obligations.PlaceSyncqQueuesQuery := by
  refine ⟨fun s j e he hp hlow hq => ?placed, fun s h => ?idle⟩
  case placed =>
    change execPlaceSyncq s = _
    unfold execPlaceSyncq
    rw [if_pos hq, State.owingSlot_eq_some he hp hlow]
    dsimp only
    rw [he]
    rfl
  case idle =>
    change execPlaceSyncq s = _
    unfold execPlaceSyncq
    rcases h with hq | hn
    · rw [if_neg (Nat.not_lt.2 hq)]
    · rw [State.owingSlot_eq_none hn]
      exact ite_self _

/-! ## RESYNC_WAIT_EXPIRY (R103, R104) -/

theorem exec_resyncWaitExpiry (s : State) (j : SlotId) : exec (.resyncWaitExpiry j.val) s = .next (s.waitExpiry j) := by
  simp only [exec, execResyncWaitExpiry, j.isLt, dif_pos]

section
variable {s : State} {j : SlotId} {e : Slot} {length : Nat} {r : Node}

theorem State.waitExpiry_of_waiting (he : s.slots[j] = some e) (hp : e.phase = .waiting length)
    (hr : s.node e.node = some r) : s.waitExpiry j =
      if r.attempts < s.resyncTries then { s with slots := s.slots.set j (some { e with phase := .queryOwed }) }
      else s.nodeLost j e.node r := by
  unfold State.waitExpiry
  rw [he]
  dsimp only
  rw [hp, hr]

theorem State.waitExpiry_of_not_waiting (h : ∀ e ∈ s.slots[j], ∀ length : Nat, e.phase ≠ .waiting length) :
    s.waitExpiry j = s := by
  unfold State.waitExpiry
  split
  · rfl
  · rename_i e he
    split
    · rename_i hp _
      exact absurd hp (h e he _)
    · rename_i hp _
      exact absurd hp (h e he _)
    · rfl
    · rfl

/-- The state in which a node is found lost and has been reported, before its loss source is driven (R104). -/
theorem State.nodeLost_eq (hr : s.node e.node = some r) :
    let lost : State := { s with
      nodes := s.nodes.set e.node (some { r with state := .lost, wasLost := true })
      slots := s.slots.set j none }
    let told := lost.notifyFlagged (.lost e.node)
    (r.lossSource = none → s.nodeLost j e.node r = told.fillSlots) ∧
      ∀ i : SourceIx, r.lossSource = some i →
        s.nodeLost j e.node r = (told.changeSource i (Source.transition .pulse)).fillSlots := by
  have hn : s.modNode e.node (fun x => { x with state := .lost, wasLost := true }) =
      { s with nodes := s.nodes.set e.node (some { r with state := .lost, wasLost := true }) } := by
    simp [State.modNode, State.setNode, hr]
  refine ⟨fun hl => ?_, fun i hl => ?_⟩
  · simp only [State.nodeLost, hn, hl]
  · simp only [State.nodeLost, hn, hl]

end

/-- Settles O35: attempts left or not, and a loss source or none. -/
theorem waitTimerExpires : Obligations.WaitTimerExpires := by
  refine ⟨fun s j e length r he hp hr => ⟨fun hlt => ?further, ?lost⟩, fun s j h => ?idle⟩
  case further => rw [exec_resyncWaitExpiry, State.waitExpiry_of_waiting he hp hr, if_pos hlt]
  case lost =>
    intro hle lost told
    have hex : exec (.resyncWaitExpiry j.val) s = .next (s.nodeLost j e.node r) := by
      rw [exec_resyncWaitExpiry, State.waitExpiry_of_waiting he hp hr, if_neg (Nat.not_lt.2 hle)]
    obtain ⟨hnone, hsome⟩ := State.nodeLost_eq (j := j) hr
    exact ⟨fun hl => by rw [hex, hnone hl], fun i hl => by rw [hex, hsome i hl]⟩
  case idle => rw [exec_resyncWaitExpiry, State.waitExpiry_of_not_waiting h]

/-! ## SAMPLE_EVENT (R116 to R119) -/

theorem Contact.active_iff (c : Contact) : c.active = true ↔ ∃ run : Nat, c.filter = .settled (!c.invert) run := by
  unfold Contact.active
  cases hf : c.filter with
  | settled level run => cases level <;> cases c.invert <;> simp
  | off => simp
  | opening => simp
  | settling => simp

/-- The sample of one input of a state whose pins have been read. -/
theorem State.sampleInput_eq {s : State} {levels : BitVec 16} (h : s.pins.cin = levels) (n : Channel) :
    s.sampleInput n = s.changeContact n ((s.contacts[n]).sample (levels.getLsbD n.val)) := by
  rw [State.sampleInput, h]

/-- In STANDBY an input's record changes and nothing else (R119). -/
theorem State.changeContact_standby {s : State} (h : s.mode = .standby) (n : Channel) (c : Contact) :
    s.changeContact n c = { s with contacts := s.contacts.set n c } := by
  unfold State.changeContact State.contactReport
  dsimp only
  rw [h]

/-- In RUN a change of activity is a transition of node 0 (R119). -/
theorem State.changeContact_run {s : State} (h : s.mode = .run) (n : Channel) (c : Contact) :
    s.changeContact n c =
      let v : State := { s with contacts := s.contacts.set n c }
      if (s.contacts[n]).active = false ∧ c.active = true then v.nodeTransition 0 n .raise
      else if (s.contacts[n]).active = true ∧ c.active = false then v.nodeTransition 0 n .fall
      else v := by
  unfold State.changeContact
  dsimp only
  rw [State.contactReport_activityReport, if_neg (by simp [h])]

/-- A fold whose steps agree as long as an invariant of the first holds. -/
theorem foldl_congr_of_invariant {α : Type} {P : State → Prop} {f g : State → α → State} (hP : ∀ s a, P s → P (f s a))
    (hfg : ∀ s a, P s → f s a = g s a) (l : List α) (s : State) (hs : P s) : l.foldl f s = l.foldl g s := by
  induction l generalizing s with
  | nil => rfl
  | cons a l ih => rw [List.foldl_cons, List.foldl_cons, ih _ (hP s a hs), hfg s a hs]

/-- The samples of a list of inputs in STANDBY, each input once. -/
theorem State.foldl_sample_standby (levels : BitVec 16) (l : List Channel) (hl : l.Nodup) (s : State)
    (hm : s.mode = .standby) (hc : s.pins.cin = levels) :
    l.foldl State.sampleInput s = { s with
      contacts := Vector.ofFn fun n =>
        if n ∈ l then (s.contacts[n]).sample (levels.getLsbD n.val) else s.contacts[n] } := by
  induction l generalizing s with
  | nil =>
    apply State.eq_of_fields <;> simp
  | cons n l ih =>
    obtain ⟨hn, hl⟩ := List.nodup_cons.1 hl
    rw [List.foldl_cons, State.sampleInput_eq hc, State.changeContact_standby hm]
    refine (ih hl _ ?_ ?_).trans ?_
    · exact hm
    · exact hc
    apply State.eq_of_fields <;> simp only
    refine Vector.ext fun m hm => ?_
    by_cases he : n.val = m
    · subst he
      simp [hn]
    · have hne : (⟨m, hm⟩ : Channel) ≠ n := fun h => he (congrArg Fin.val h).symm
      simp [Vector.getElem_set, he, hne]

/-- One sample in RUN, as the change of activity it makes (R117 to R119). -/
theorem State.sampleInput_run {s : State} {levels : BitVec 16} (hm : s.mode = .run) (hc : s.pins.cin = levels)
    (n : Channel) : s.sampleInput n =
      let before := (s.contacts[n]).active
      let v : State := { s with contacts := s.contacts.set n ((s.contacts[n]).sample (levels.getLsbD n.val)) }
      let after := (v.contacts[n]).active
      if before = false ∧ after = true then v.nodeTransition 0 n .raise
      else if before = true ∧ after = false then v.nodeTransition 0 n .fall
      else v := by
  rw [State.sampleInput_eq hc, State.changeContact_run hm]
  simp only [Fin.getElem_fin, Vector.getElem_set_self]

/-- What the filter of an input makes of a reading (R117, R118). -/
theorem Contact.sample_settling {c : Contact} {runLevel : Option Bool} {run : Nat} (hf : c.filter = .settling runLevel run)
    (pin : Bool) :
    let count := if runLevel = some pin then run + 1 else 1
    c.sample pin = { c with
      filter := if count = c.length.val + 1 then .settled pin 0 else .settling (some pin) count } := by
  intro count
  unfold Contact.sample
  rw [hf]
  change (if count = c.length.val + 1 then ({ c with filter := .settled pin 0 } : Contact)
    else { c with filter := .settling (some pin) count }) = _
  split <;> rfl

theorem Contact.sample_settled {c : Contact} {level : Bool} {run : Nat} (hf : c.filter = .settled level run) (pin : Bool) :
    c.sample pin = { c with
      filter := if pin = level then .settled level 0
        else if run + 1 = c.length.val + 1 then .settled pin 0
        else .settled level (run + 1) } := by
  unfold Contact.sample
  rw [hf]
  dsimp only
  split
  · rfl
  · split <;> rfl

/-- Settles O36: the filter's cases; RSTn low; the inputs one by one in STANDBY and in RUN. -/
theorem sampleEventsRunFilters : Obligations.SampleEventsRunFilters := by
  refine ⟨fun c pin => ⟨fun hf => ?_, fun hf => ?_, fun _ _ hf => Contact.sample_settling hf pin,
    fun _ _ hf => Contact.sample_settled hf pin, c.active_iff⟩, fun s levels hr => ?_, fun s levels hr hm => ?_,
    fun s levels hr hm => ?_⟩
  · unfold Contact.sample
    rw [hf]
  · unfold Contact.sample
    rw [hf]
  · change execSampleEvent levels s = _
    rw [execSampleEvent, hr]
    rfl
  · change execSampleEvent levels s = _
    rw [execSampleEvent, if_pos hr]
    refine congrArg Host.Outcome.next ((State.foldl_sample_standby levels _ (List.nodup_finRange 16) _ ?_ ?_).trans ?_)
    · exact hm
    · rfl
    · simp only [List.mem_finRange, if_true]
  · change execSampleEvent levels s = _
    rw [execSampleEvent, if_pos hr]
    refine congrArg Host.Outcome.next (foldl_congr_of_invariant (P := fun u => u.mode = .run ∧ u.pins.cin = levels)
      (fun u n hu => ⟨by rw [State.sampleInput_mode, hu.1], by rw [State.sampleInput_pins, hu.2]⟩)
      (fun u n hu => State.sampleInput_run hu.1 hu.2 n) _ _ ?_)
    exact ⟨hm, rfl⟩

end Sys2Proof.Machine
end

section
/-! PROOFS. RESUME, the loss of the field link, and the resets. -/

namespace Sys2Proof.Machine

open Sys2Proof

/-! ## RESUME (R143) -/

/-- The eight buffers the field port lends, with their CREDITs where it sends symbols (R143, R152). -/
theorem State.lendField_eq (s : State) : s.lendField =
    let symbols := s.field.link = .announcing ∨ s.field.link = .up
    { s with field := { s.field with
      creditGiven := 8
      creditsOwed := if symbols ∧ s.field.sending ≠ none then s.field.creditsOwed + 8 else s.field.creditsOwed
      sent := if symbols ∧ s.field.sending = none then s.field.sent ++ List.replicate 8 LineItem.credit
        else s.field.sent } } := by
  unfold State.lendField
  rw [Line.sendCredits_eq]
  simp only [Line.talks_iff]

theorem resumeAct_eq {s u : State} (k : AgentId) (args : List Byte)
    (hu : ({ s with mode := .run, retained := false } : State).refreshNode0.lendField = u) :
    resumeAct k args s = (u.fillSlots, { status := .ok, report := [0x01#8, 0x00#8] }) := by
  have hmode : u.fillSlots.mode = .run := by
    rw [← hu, State.fillSlots_mode, State.lendField_mode, State.refreshNode0_mode]
  have hret : u.fillSlots.retained = false := by
    rw [← hu, State.fillSlots_retained, State.lendField_retained, State.refreshNode0_retained]
  unfold resumeAct
  simp only [hu, hmode, hret]
  rfl

/-- Settles O39: the refresh leaves the field port, so the buffers are lent as the port stood. -/
theorem resumeEntersRun : Obligations.ResumeEntersRun := by
  intro s f k h hm hmode running refreshed symbols lent
  have he := exec_own (c := .resume) h rfl (fun _ => hm.1) (fun _ => hm.2) (by simp [ReqCode.needsMode, hmode])
  dsimp only [ReqCode.row, ReqCode.own] at he
  have hfield : refreshed.field = s.field := running.nodeLevels_field 0 _
  have hlent : running.refreshNode0.lendField = lent := by
    change refreshed.lendField = lent
    rw [State.lendField_eq, hfield]
  rw [he, resumeAct_eq k [] hlent]

/-! ## SILENCE_TIMEOUT of the field port (R112, R151, R157) -/

theorem State.fieldGiven_eq (s : State) : s.fieldGiven = if s.mode = .run then 8 else 0 := by
  unfold State.fieldGiven
  cases s.mode <;> rfl

theorem State.fieldNodesDown_source (s : State) (i : SourceIx) : s.fieldNodesDown.source i = (s.source i).map fun a =>
    if a.config.node ≠ 0 ∧ ∃ r ∈ s.node a.config.node, r.state = .synced then { a with uncertain := true } else a := by
  simp only [State.source_fieldNodesDown, Option.map_eq_some_iff, Option.mem_def]

theorem State.fieldNodesDown_node (s : State) (n : NodeId) : s.fieldNodesDown.node n =
    (s.node n).map fun r => if n = 0 then r else { r with state := .waiting } := by
  simp only [State.node, State.fieldNodesDown, Fin.getElem_fin, Vector.getElem_ofFn]
  split
  · exact Option.map_id'.symm
  · rfl

/-- The nodes, sources, slots and wait list at field link-down (R112). -/
theorem State.fieldNodesDown_eq (s : State) : s.fieldNodesDown = { s with
    nodes := Vector.ofFn fun n => (s.node n).map fun r => if n = 0 then r else { r with state := .waiting }
    sources := Vector.ofFn fun i => (s.source i).map fun a =>
      if a.config.node ≠ 0 ∧ ∃ r ∈ s.node a.config.node, r.state = .synced then { a with uncertain := true } else a
    slots := Vector.replicate 4 none
    waitList := (List.finRange 64).filter fun n => decide (n ≠ 0) && (s.node n).isSome } := by
  rw [← State.nodes_eq_ofFn s.fieldNodesDown_node, ← State.sources_eq_ofFn s.fieldNodesDown_source]
  rfl

/-- The state in which the field port has lost its link and FIELD-DOWN is made, before a frame in hand is placed. -/
def State.fieldDropped (s : State) : State :=
  ({ s with field := s.field.enterQuiet s.fieldGiven } : State).fieldNodesDown.notifyFlagged .fieldDown

theorem State.fieldDropped_field (s : State) : s.fieldDropped.field = s.field.enterQuiet s.fieldGiven :=
  State.notifyFlagged_field _ _

theorem State.fieldDropped_trunk (s : State) : s.fieldDropped.trunk = s.trunk := State.notifyFlagged_trunk _ _

theorem State.fieldLinkDown_of_none {s : State} (h : s.trunk.inHand = none) : s.fieldLinkDown = s.fieldDropped := by
  unfold State.fieldLinkDown
  rw [h]
  rfl

theorem State.fieldLinkDown_of_some {s : State} {f : Frame} (h : s.trunk.inHand = some f) : s.fieldLinkDown =
    { s.fieldDropped with
      trunk := s.trunk.finishHead
      field := { s.fieldDropped.field with queue := [{ frame := f, restart := false }] } } := by
  rw [← s.fieldDropped_trunk, s.fieldDropped_field]
  unfold State.fieldLinkDown
  rw [h]
  dsimp only
  change { s.fieldDropped.finishTrunk with field := s.fieldDropped.field.place f } = _
  rw [s.fieldDropped_field]
  rfl

theorem State.fieldDropped_eq (s : State) :
    let t : State := { s with
      field := { s.field with
        link := .quiet, sendCredit := 0, creditGiven := if s.mode = .run then 8 else 0, rx := [], hold := false,
        sending := none, creditsOwed := 0, queue := [] }
      nodes := Vector.ofFn fun n => (s.node n).map fun r => if n = 0 then r else { r with state := .waiting }
      sources := Vector.ofFn fun i => (s.source i).map fun a =>
        if a.config.node ≠ 0 ∧ ∃ r ∈ s.node a.config.node, r.state = .synced then { a with uncertain := true } else a
      slots := Vector.replicate 4 none
      waitList := (List.finRange 64).filter fun n => decide (n ≠ 0) && (s.node n).isSome }
    s.fieldDropped = t.notifyFlagged .fieldDown := by
  intro t
  unfold State.fieldDropped
  rw [State.fieldNodesDown_eq, State.fieldGiven_eq]
  rfl

/-- Settles O48: the port and the node table at field link-down, and the frame that was in hand. -/
theorem fieldSilenceLosesLink : Obligations.FieldSilenceLosesLink := by
  refine ⟨fun s h => if_neg h, ?_⟩
  intro s h t told
  have hex : exec (.silenceTimeout .field) s = .next s.fieldLinkDown := if_pos h
  have htold : s.fieldDropped = told := s.fieldDropped_eq
  refine ⟨fun hno => ?_, fun f hh hf => ?_⟩
  · rw [hex, State.fieldLinkDown_of_none (Line.inHand_eq_none hno), htold]
  · rw [hex, State.fieldLinkDown_of_some (Line.inHand_of_hold hh hf), htold]

/-! ## Resets (R147, R148, R155, R158) -/

/-- A source as a warm reset leaves it (R44). -/
theorem State.warmReset_source (s : State) (i : SourceIx) : s.warmReset.source i = (s.source i).map fun a => {
    config := a.config, status := .idle,
    reasons := { edgeOwed := false, latched := false, asserted := false, forced := false },
    uncertain := decide (a.config.node ≠ 0), merge := 0#8 } := s.source_warmReset i

/-- A contact input as a warm reset leaves it (R125). -/
theorem Contact.warm_eq (c : Contact) :
    c.warm = { c with filter := if c.filter = .off then .off else .settling none 0 } := by
  unfold Contact.warm Contact.enabled
  by_cases h : c.filter = .off <;> simp [h]

theorem State.warmReset_contacts (s : State) : s.warmReset.contacts =
    s.contacts.map fun c => { c with filter := if c.filter = .off then .off else .settling none 0 } :=
  congrArg (fun g => s.contacts.map g) (funext Contact.warm_eq)

/-- The node table at power-on: node 0 alone is present (R90). -/
theorem State.reset_node (n : NodeId) : State.reset.node n = if n = 0 then some {
    lossSource := none, state := .synced, expected := 0#8, attempts := 0, wasLost := false, gaps := 0#16,
    unmapped := 0#16 } else none := by
  by_cases h : n = 0
  · subst h
    rfl
  · have hv : ¬ (0 : Nat) = n.val := fun hv => h (Fin.ext hv.symm)
    rw [if_neg h]
    simp [State.node, State.reset, hv]

theorem exec_resetEnd_of_low {s : State} (v : BitVec 3) (hr : s.pins.rstn = false) :
    exec (.resetEnd v) s = .next ((s.driveRstn true).endReset v) := if_neg (by simp [hr])

/-- Settles O49: Table 8-1 field by field, the end of a reset from DOWN, and the state POWER_ON makes. -/
theorem resetsTakenAndEnded : Obligations.ResetsTakenAndEnded := by
  refine ⟨fun s => ?warm, fun s v hr => if_pos hr, fun s v hr hm ht hf => ?ended, ?power⟩
  case warm =>
    rw [← State.sources_eq_ofFn s.warmReset_source, ← s.warmReset_contacts]
    rfl
  case ended =>
    rw [exec_resetEnd_of_low v hr]
    have hgiven : s.fieldGiven = 0 := by rw [State.fieldGiven_eq, hm, if_neg nofun]
    have htrunk : s.trunk.leaveDown 8 = s.trunk.enterQuiet 8 := if_pos ht
    have hfield : s.field.leaveDown s.fieldGiven = s.field.enterQuiet 0 := by rw [hgiven]; exact if_pos hf
    change Host.Outcome.next { s with
      straps := v
      pins := { s.pins with straps := v, rstn := true }
      trunk := s.trunk.leaveDown 8
      field := s.field.leaveDown s.fieldGiven } = _
    rw [htrunk, hfield]
    rfl
  case power =>
    intro s v down cleared
    have hnodes := State.nodes_eq_ofFn State.reset_node
    refine ⟨?_, ?_, ?_⟩
    · simp only [cleared, ← hnodes]
      rfl
    · simp only [cleared, ← hnodes]
      rfl
    · simp only [cleared, ← hnodes]
      rfl

end Sys2Proof.Machine
end

section
/-! PROOFS. The transmitters, the frames that have gone out, and the symbols of the link. -/

namespace Sys2Proof.Machine

open Sys2Proof

/-! ## The transmitters (R88, R163, R164) -/

/-- The alert flags of a list of agents cleared without a frame (R88). -/
def State.quieted (s : State) (l : List AgentId) : State :=
  { s with agents := Vector.ofFn fun j => if j ∈ l then { s.agent j with alert := false } else s.agent j }

theorem State.quieted_agent (s : State) (l : List AgentId) (j : AgentId) :
    (s.quieted l).agent j = if j ∈ l then { s.agent j with alert := false } else s.agent j := by
  simp [State.agent, State.quieted]

theorem State.quieted_attention (s : State) (l : List AgentId) (j : AgentId) :
    (s.quieted l).attention j = s.attention j := by
  refine State.attention_congr j rfl rfl ?_ ?_ <;> rw [State.quieted_agent] <;> split <;> rfl

/-- States that differ at most in their agents, and have the same agents. -/
theorem State.eq_of_agent {s t : State} (hrest : { t with agents := s.agents } = s) (h : ∀ j, t.agent j = s.agent j) :
    t = s := by
  rw [← hrest, ← State.agents_ext h]

theorem State.quieted_nil (s : State) : s.quieted [] = s := by
  refine State.eq_of_agent rfl fun j => ?_
  rw [State.quieted_agent, if_neg List.not_mem_nil]

/-- Clearing the flags of a list of agents, the first agent first. -/
theorem State.quieted_cons (s : State) (k : AgentId) (l : List AgentId) : (s.quieted [k]).quieted l = s.quieted (k :: l) := by
  refine State.eq_of_agent rfl fun j => ?_
  simp only [State.quieted_agent, List.mem_cons, List.not_mem_nil, or_false]
  by_cases hk : j = k <;> by_cases hl : j ∈ l <;> simp [hk, hl]

/-- Clearing one flag. -/
theorem State.quieted_singleton (s : State) (k : AgentId) :
    s.quieted [k] = s.modAgent k fun a => { a with alert := false } := by
  refine State.eq_of_agent rfl fun j => ?_
  rw [State.quieted_agent, State.agent_modAgent]
  by_cases h : k = j
  · subst h
    simp
  · simp [h, Ne.symm h]

theorem State.quieted_of_clear {s : State} {k : AgentId} (h : (s.agent k).alert = false) : s.quieted [k] = s := by
  refine State.eq_of_agent rfl fun j => ?_
  rw [State.quieted_agent]
  split
  · rename_i hj
    rw [List.mem_singleton.1 hj, ← h]
  · rfl

/-- An agent whose flag, if set, stands for the rank last sent gives no frame. -/
theorem State.serveAlerts_cons_of_quiet {s : State} {k : AgentId}
    (h : (s.agent k).alert = true → s.attention k = (s.agent k).lastSent) (ks : List AgentId) :
    s.serveAlerts (k :: ks) = (s.quieted [k]).serveAlerts ks := by
  rw [State.serveAlerts_cons]
  by_cases ha : (s.agent k).alert = true
  · rw [if_pos ha, if_pos (h ha), State.quieted_singleton]
  · rw [if_neg ha, State.quieted_of_clear (Bool.eq_false_iff.2 ha)]

/-- The agents that give no frame are passed over, their flags cleared (R88). -/
theorem State.serveAlerts_append (l ks : List AgentId) (s : State)
    (h : ∀ j ∈ l, (s.agent j).alert = true → s.attention j = (s.agent j).lastSent) :
    s.serveAlerts (l ++ ks) = (s.quieted l).serveAlerts ks := by
  induction l generalizing s with
  | nil => rw [List.nil_append, State.quieted_nil]
  | cons k l ih =>
    rw [List.cons_append, State.serveAlerts_cons_of_quiet (h k List.mem_cons_self), ih, State.quieted_cons]
    intro j hj ha
    rw [State.quieted_attention]
    rw [State.quieted_agent] at ha ⊢
    split at ha
    · exact absurd ha Bool.false_ne_true
    · rename_i hk
      rw [if_neg hk]
      exact h j (List.mem_cons_of_mem k hj) ha

/-- The agents an agent's ALERT waits for (R163). -/
def agentsBelow (k : AgentId) : List AgentId := (List.finRange 4).filter fun j => decide (j < k)

theorem mem_agentsBelow {j k : AgentId} : j ∈ agentsBelow k ↔ j < k := by simp [agentsBelow]

theorem finRange_eq_agentsBelow_append (k : AgentId) :
    List.finRange 4 = agentsBelow k ++ k :: (List.finRange 4).filter fun j => decide (k < j) := by
  revert k
  decide

theorem Line.canSend_iff (l : Line) : l.canSend = true ↔ l.link = .up ∧ 0 < l.sendCredit ∧ l.sending = none := by
  simp [Line.canSend, and_assoc]

section
variable {s : State}

/-- The first agent whose flag stands for a rank not yet sent gives the ALERT (R163). -/
theorem exec_trunkTransmitter_of_alert {k : AgentId} (hc : s.trunk.canSend = true) (hk : (s.agent k).alert = true)
    (hne : s.attention k ≠ (s.agent k).lastSent)
    (hlow : ∀ j : AgentId, j < k → (s.agent j).alert = true → s.attention j = (s.agent j).lastSent) :
    exec .trunkTransmitter s = .next { s with
      agents := Vector.ofFn fun j =>
        if j < k then { s.agent j with alert := false }
        else if j = k then { s.agent j with alert := false, lastSent := s.attention k }
        else s.agent j
      trunk := s.trunk.begin (.alert (s.build (agentStation k) Config.kindAlert 0#8 [byteOf (s.attention k).val])) } := by
  have hsame : (s.quieted (agentsBelow k)).agent k = s.agent k := by
    rw [State.quieted_agent, if_neg fun h => lt_irrefl k (mem_agentsBelow.1 h)]
  have hserve : s.serveAlerts (List.finRange 4) =
      ((s.quieted (agentsBelow k)).modAgent k fun a => { a with alert := false, lastSent := s.attention k },
        some (s.build (agentStation k) Config.kindAlert 0#8 [byteOf (s.attention k).val])) := by
    rw [finRange_eq_agentsBelow_append k, State.serveAlerts_append _ _ _ fun j hj => hlow j (mem_agentsBelow.1 hj),
      State.serveAlerts_cons, hsame, if_pos hk, State.quieted_attention, if_neg hne]
    rfl
  have hagents : ((s.quieted (agentsBelow k)).modAgent k
      fun a => { a with alert := false, lastSent := s.attention k }).agents =
      Vector.ofFn fun j =>
        if j < k then { s.agent j with alert := false }
        else if j = k then { s.agent j with alert := false, lastSent := s.attention k }
        else s.agent j := by
    refine State.agents_eq_ofFn fun j => ?_
    rw [State.agent_modAgent, hsame, State.quieted_agent, if_congr mem_agentsBelow rfl rfl]
    by_cases hj : k = j
    · subst hj
      simp
    · simp [hj, Ne.symm hj]
  change execTrunkTransmitter s = _
  rw [execTrunkTransmitter, if_pos hc, hserve, ← hagents]
  rfl

/-- Without an ALERT to send, the flags are cleared and the head of the queue is sent (R88, R163). -/
theorem exec_trunkTransmitter_of_quiet (hc : s.trunk.canSend = true)
    (hq : ∀ j : AgentId, (s.agent j).alert = true → s.attention j = (s.agent j).lastSent) :
    exec .trunkTransmitter s = .next { s with
      agents := Vector.ofFn fun j => { s.agent j with alert := false }
      trunk := if s.trunk.queue = [] then s.trunk else s.trunk.begin .head } := by
  have hserve : s.serveAlerts (List.finRange 4) = (s.quieted (List.finRange 4), none) := by
    have h := State.serveAlerts_append (List.finRange 4) [] s fun j _ => hq j
    rwa [List.append_nil] at h
  have hagents : (s.quieted (List.finRange 4)).agents = Vector.ofFn fun j => { s.agent j with alert := false } :=
    State.agents_eq_ofFn fun j => by rw [State.quieted_agent, if_pos (List.mem_finRange j)]
  change execTrunkTransmitter s = _
  rw [execTrunkTransmitter, if_pos hc, hserve, ← hagents]
  dsimp only
  by_cases hqueue : s.trunk.queue = []
  · rw [if_pos hqueue, if_pos (by exact List.isEmpty_iff.2 hqueue)]
    rfl
  · rw [if_neg hqueue, if_neg (by exact fun h => hqueue (List.isEmpty_iff.1 h))]
    rfl

end

/-- Settles O43: the alerts are served in order of the agents, then the queue. -/
theorem transmittersChoose : Obligations.TransmittersChoose := by
  refine ⟨⟨fun s k hl hc hs hk hne hlow => ?alert, fun s hl hc hs hq => ?quiet, fun s h => ?idle⟩, ?field⟩
  case alert => exact exec_trunkTransmitter_of_alert ((Line.canSend_iff _).2 ⟨hl, hc, hs⟩) hk hne hlow
  case quiet => exact exec_trunkTransmitter_of_quiet ((Line.canSend_iff _).2 ⟨hl, hc, hs⟩) hq
  case idle =>
    have hno : ¬ s.trunk.canSend = true := by
      rw [Line.canSend_iff, Nat.pos_iff_ne_zero]
      tauto
    exact if_neg hno
  case field =>
    intro s ready
    have hready : (s.field.canSend && !s.field.queue.isEmpty) = true ↔ ready := by
      rw [Bool.and_eq_true, Line.canSend_iff, Bool.not_eq_true', List.isEmpty_eq_false_iff, and_assoc, and_assoc]
    exact ⟨fun h => if_pos (hready.2 h), fun h => if_neg (mt hready.1 h)⟩

/-! ## FRAME_TRANSMITTED (R102, R145, R152, R154) -/

section
variable {s : State}

theorem State.trunkTransmitted_none (v : BitVec 3) (h : s.trunk.sending = none) : s.trunkTransmitted v = s := by
  unfold State.trunkTransmitted
  rw [h]

theorem State.trunkTransmitted_alert (v : BitVec 3) {f : Frame} (h : s.trunk.sending = some (.alert f)) :
    s.trunkTransmitted v = { s with trunk := s.trunk.finishSending f } := by
  unfold State.trunkTransmitted
  rw [h]

theorem State.trunkTransmitted_head (v : BitVec 3) {e : TxEntry} {rest : List TxEntry} (h : s.trunk.sending = some .head)
    (hq : s.trunk.queue = e :: rest) :
    let t : State := { s with trunk := s.trunk.headSent e rest }
    s.trunkTransmitted v = if e.restart = true then t.warmReset.endReset v else t := by
  unfold State.trunkTransmitted
  rw [h, hq]

theorem State.fieldTransmitted_none (h : s.field.sending = none) : s.fieldTransmitted = s := by
  unfold State.fieldTransmitted
  rw [h]

theorem State.fieldTransmitted_head {e : TxEntry} {rest : List TxEntry} (h : s.field.sending = some .head)
    (hq : s.field.queue = e :: rest) :
    let t : State := { s with field := s.field.headSent e rest }
    s.fieldTransmitted = if e.frame.kind = Config.kindSyncq then t.queryTransmitted e.frame.dest else t := by
  unfold State.fieldTransmitted
  rw [h, hq]

/-- The warm reset of a RESTART is the reset of the RSTn pin, but for that pin (R145, R147). -/
theorem State.restart_eq_warmReset (t : State) (v : BitVec 3) : ∃ u w : State, exec .warmReset t = .next u ∧
    exec (.resetEnd v) u = .next w ∧ t.warmReset.endReset v = { w with pins := { w.pins with rstn := t.pins.rstn } } :=
  ⟨_, _, rfl, exec_resetEnd_of_low v rfl, rfl⟩

theorem byteOf_node_inj {n m : NodeId} (h : byteOf n.val = byteOf m.val) : n = m := by
  have hv : n.val % 2 ^ 8 = m.val % 2 ^ 8 := congrArg BitVec.toNat h
  exact Fin.ext (by omega)

theorem Slot.queuedTo_iff (e : Slot) (dest : Byte) :
    e.queuedTo dest = true ↔ byteOf e.node.val = dest ∧ e.phase = .queryQueued := by
  simp [Slot.queuedTo]

/-- A transmitted query that no slot waits for starts nothing (R102). -/
theorem State.queryTransmitted_of_none {dest : Byte}
    (h : ∀ j : SlotId, ∀ g ∈ s.slots[j], g.phase = .queryQueued → byteOf g.node.val ≠ dest) :
    s.queryTransmitted dest = s := by
  have hnone : (List.finRange 4).find? (fun j => (s.slots[j]).any (Slot.queuedTo dest)) = none := by
    refine find?_finRange_eq_none.2 fun j => ?_
    cases hg : s.slots[j] with
    | none => rfl
    | some g => exact Bool.eq_false_iff.2 fun hq => h j g hg ((g.queuedTo_iff dest).1 hq).2 ((g.queuedTo_iff dest).1 hq).1
  unfold State.queryTransmitted
  rw [hnone]

/-- A transmitted query counts an attempt and starts the wait timer of the slot that holds its node (R102). -/
theorem State.queryTransmitted_of_slot {j : SlotId} {n : NodeId} {r : Node}
    (hj : s.slots[j] = some { node := n, phase := .queryQueued })
    (hlow : ∀ m : SlotId, m < j → ∀ g ∈ s.slots[m], g.node ≠ n) (hr : s.node n = some r) :
    s.queryTransmitted (byteOf n.val) = { s with
      nodes := s.nodes.set n (some { r with attempts := r.attempts + 1 })
      slots := s.slots.set j (some { node := n, phase := .waiting s.resyncWait }) } := by
  have hfind : (List.finRange 4).find? (fun j => (s.slots[j]).any (Slot.queuedTo (byteOf n.val))) = some j := by
    refine find?_finRange_eq_some.2 ⟨?_, fun m hm => ?_⟩
    · rw [hj]
      exact (Slot.queuedTo_iff _ _).2 ⟨rfl, rfl⟩
    · cases hg : s.slots[m] with
      | none => rfl
      | some g =>
        exact Bool.eq_false_iff.2 fun hq => hlow m hm g hg (byteOf_node_inj ((g.queuedTo_iff _).1 hq).1)
  unfold State.queryTransmitted
  rw [hfind]
  dsimp only
  rw [hj]
  simp only [State.modNode, State.setNode, hr, Option.map_some]

end

/-- Settles O44: nothing sent, an ALERT, the head of the trunk queue and its mark, the head of the field queue and its
kind. -/
theorem frameTransmittedActs : Obligations.FrameTransmittedActs := by
  refine ⟨fun s v p h => ?none, fun s v f h => ?alert, ?head, ?field⟩
  case none =>
    cases p with
    | trunk => exact congrArg Host.Outcome.next (State.trunkTransmitted_none v h)
    | field => exact congrArg Host.Outcome.next (State.fieldTransmitted_none h)
  case alert => exact congrArg Host.Outcome.next (State.trunkTransmitted_alert v h)
  case head =>
    intro s v e rest h hq t
    have hex : exec (.frameTransmitted .trunk v) s = .next (if e.restart = true then t.warmReset.endReset v else t) :=
      congrArg Host.Outcome.next (State.trunkTransmitted_head v h hq)
    refine ⟨fun hr => ?_, fun hr => ?_⟩
    · rw [hex, hr]
      rfl
    · obtain ⟨u, w, hu, hw, he⟩ := t.restart_eq_warmReset v
      exact ⟨u, w, hu, hw, by rw [hex, if_pos hr, he]⟩
  case field =>
    intro s v e rest h hq t
    have hex : exec (.frameTransmitted .field v) s =
        .next (if e.frame.kind = Config.kindSyncq then t.queryTransmitted e.frame.dest else t) :=
      congrArg Host.Outcome.next (State.fieldTransmitted_head h hq)
    refine ⟨fun hk => ?_, fun hk hno => ?_, fun hk j n r hj hd hlow hr => ?_⟩
    · rw [hex, if_neg hk]
    · rw [hex, if_pos hk, State.queryTransmitted_of_none (s := t) hno]
    · rw [hex, if_pos hk, hd, State.queryTransmitted_of_slot (s := t) hj hlow hr]

/-! ## The symbols of the link (R113, R149, R150, R154) -/

/-- Settles O46: each symbol, and each end of a phase, by the state of the link. -/
theorem linkSymbols : Obligations.LinkSymbols := by
  refine ⟨fun s l => ⟨rfl, rfl, rfl, rfl⟩, fun s count hc h => (if_pos hc).trans (if_pos h),
    fun s count hc h => (if_pos hc).trans (if_pos h), fun s p count hc h => (if_pos hc).trans (if_neg h),
    fun s p => ?port⟩
  case port =>
    intro l
    have hfill : (l.talks && l.sending.isNone) = true ↔ (l.link = .announcing ∨ l.link = .up) ∧ l.sending = none := by
      rw [Bool.and_eq_true, Line.talks_iff, Option.isNone_iff_eq_none]
    refine ⟨fun hu hc => if_pos ⟨hu, hc⟩, fun h => if_neg fun hb => ?_, fun h => if_pos h, fun h => if_neg h,
      fun ht hs => if_pos (hfill.2 ⟨ht, hs⟩), fun h => if_neg fun hb => ?_⟩
    · obtain ⟨hu, hc⟩ := hb
      exact h.elim (fun hn => hn hu) fun hn => absurd hc (Nat.not_lt.2 hn)
    · obtain ⟨ht, hs⟩ := hfill.1 hb
      rcases h with hl | hl | hl
      · simp [hl] at ht
      · simp [hl] at ht
      · exact hl hs

end Sys2Proof.Machine
end

section
/-! PROOFS. Frames as bytes, and the frames a port receives. -/

namespace Sys2Proof.Machine

open Sys2Proof

/-! ## Frames and their bytes (R153, Table 11-1) -/

theorem Frame.bytes_eq (f : Frame) : f.bytes = f.dest :: f.orig :: f.kind :: f.tag :: BitVec.ofNat 8 f.payload.length ::
    (f.payload ++ [f.check.extractLsb' 8 8, f.check.extractLsb' 0 8]) := rfl

/-- A good frame is read back from its bytes. -/
theorem Frame.ofBytes?_bytes {f : Frame} (hp : f.payload.length ≤ 48) (hc : f.check = crc16 f.covered) :
    Frame.ofBytes? f.bytes = some f := by
  have hlen : (BitVec.ofNat 8 f.payload.length).toNat = f.payload.length := by
    rw [BitVec.toNat_ofNat]
    omega
  rw [Frame.bytes_eq]
  unfold Frame.ofBytes?
  simp only [hlen, List.length_append, List.length_cons, List.length_nil, hp, true_and, List.drop_left,
    List.take_left, halfOf_halfBytes, if_true]
  exact if_pos hc

/-- What is read spells the bytes received. -/
theorem Frame.bytes_of_ofBytes? {bs : List Byte} {f : Frame} (h : Frame.ofBytes? bs = some f) :
    f.bytes = bs ∧ f.payload.length ≤ 48 ∧ f.check = crc16 f.covered := by
  unfold Frame.ofBytes? at h
  split at h
  · rename_i dest orig kind tag len rest
    split at h
    · rename_i hl
      obtain ⟨hmax, hrest⟩ := hl
      split at h
      · rename_i hi lo hdrop
        dsimp only at h
        split at h
        · rename_i hcheck
          obtain rfl := Option.some.inj h
          have htake : (rest.take len.toNat).length = len.toNat := by rw [List.length_take]; omega
          refine ⟨?_, ?_, hcheck⟩
          · have hbytes : rest.take len.toNat ++ [hi, lo] = rest := by rw [← hdrop, List.take_append_drop]
            have hlen : BitVec.ofNat 8 (rest.take len.toNat).length = len := by rw [htake, BitVec.ofNat_toNat, BitVec.setWidth_eq]
            unfold Frame.bytes Frame.covered
            dsimp only
            rw [halfBytes_halfOf, hlen, List.append_assoc, hbytes]
            rfl
          · exact htake.trans_le hmax
        · exact absurd h nofun
      · exact absurd h nofun
    · exact absurd h nofun
  · exact absurd h nofun

/-- One byte of the check, bit by bit (R153). -/
theorem crcByte_eq (c : Half) (b : Byte) : crcByte c b = [7, 6, 5, 4, 3, 2, 1, 0].foldl (fun (c : BitVec 16) (i : Nat) =>
    if c.msb = b.getLsbD i then c <<< 1 else (c <<< 1) ^^^ 0x1021#16) c := by
  have hbit (c : Half) (i : Nat) : crcBit c (b.getLsbD i) =
      if c.msb = b.getLsbD i then c <<< 1 else (c <<< 1) ^^^ 0x1021#16 := by
    unfold crcBit
    cases c.msb <;> cases b.getLsbD i <;> rfl
  simp only [crcByte, hbit]

theorem crc16_concat (bs : List Byte) (b : Byte) : crc16 (bs ++ [b]) = crcByte (crc16 bs) b := by
  simp [crc16, List.foldl_append]

/-- Settles O50: the layout of a frame, the check bit by bit, and the reading back of a frame from its bytes. -/
theorem frameBytesAgree : Obligations.FrameBytesAgree :=
  ⟨fun f => ⟨f.bytes_eq, rfl⟩, fun _ _ _ _ _ => rfl, rfl, fun bs b => (crc16_concat bs b).trans (crcByte_eq _ b),
    fun _ hp hc => Frame.ofBytes?_bytes hp hc, fun _ _ h => Frame.bytes_of_ofBytes? h, by decide +kernel⟩

/-! ## FRAME_RECEIVED (R149, R153) -/

theorem Frame.ofBytes?_eq_none {bs : List Byte}
    (h : ∀ f : Frame, ¬ (bs = f.bytes ∧ f.payload.length ≤ 48 ∧ f.check = crc16 f.covered)) : Frame.ofBytes? bs = none := by
  refine Option.eq_none_iff_forall_ne_some.2 fun f hf => h f ?_
  obtain ⟨hb, hp, hc⟩ := Frame.bytes_of_ofBytes? hf
  exact ⟨hb.symm, hp, hc⟩

/-- A buffer given and lent again at once: its CREDIT alone (R152, R153). -/
theorem Line.lend_given {l : Line} (ht : l.talks = true) (hc : 0 < l.creditGiven) :
    Line.lend { l with creditGiven := l.creditGiven - 1 } = { l with
      creditsOwed := if l.sending = none then l.creditsOwed else l.creditsOwed + 1
      sent := if l.sending = none then l.sent ++ [LineItem.credit] else l.sent } := by
  have hl := l.talks_iff.1 ht
  unfold Line.lend
  rw [Line.sendCredits_eq]
  simp only [Line.talks_iff, hl, true_and, Nat.sub_add_cancel hc]
  cases l.sending <;> simp

section
variable {s : State} {p : PortId} {bs : List Byte}

theorem exec_frameReceived_of_silent (h : ¬ (s.line p).talks = true) : exec (.frameReceived p bs) s = .next s := if_neg h

theorem exec_frameReceived_of_unlent (h : (s.line p).talks = true) (hc : (s.line p).creditGiven = 0) :
    exec (.frameReceived p bs) s = .next (s.count (Counters.addCheck p)) := (if_pos h).trans (if_pos hc)

theorem exec_frameReceived_of_good (h : (s.line p).talks = true) (hc : (s.line p).creditGiven ≠ 0) {f : Frame}
    (hf : Frame.ofBytes? bs = some f) : exec (.frameReceived p bs) s = .next (s.setLine p { s.line p with
      creditGiven := (s.line p).creditGiven - 1, rx := (s.line p).rx ++ [f] }) := by
  refine (if_pos h).trans ((if_neg hc).trans ?_)
  dsimp only
  rw [hf]

theorem exec_frameReceived_of_bad (h : (s.line p).talks = true) (hc : (s.line p).creditGiven ≠ 0)
    (hf : Frame.ofBytes? bs = none) : exec (.frameReceived p bs) s = .next
      ((s.setLine p (Line.lend { s.line p with creditGiven := (s.line p).creditGiven - 1 })).count (Counters.addCheck p)) := by
  refine (if_pos h).trans ((if_neg hc).trans ?_)
  dsimp only
  rw [hf]

end

/-- Settles O45: a port that does not listen, one without credit given, and a frame that is good or bad. -/
theorem frameReceivedActs : Obligations.FrameReceivedActs := by
  intro s p bs l good counted listens
  have ht : l.talks = true ↔ listens := l.talks_iff
  have hcount : s.count (Counters.addCheck p) = counted := by cases p <;> rfl
  refine ⟨fun h => exec_frameReceived_of_silent (mt ht.1 h), fun h hc => ?_, fun h hc f hf => ?_, fun h hc hbad => ?_⟩
  · rw [exec_frameReceived_of_unlent (ht.2 h) hc, hcount]
  · obtain ⟨hb, hp, hch⟩ := hf
    exact exec_frameReceived_of_good (ht.2 h) (Nat.pos_iff_ne_zero.1 hc) (hb ▸ Frame.ofBytes?_bytes hp hch)
  · rw [exec_frameReceived_of_bad (ht.2 h) (Nat.pos_iff_ne_zero.1 hc) (Frame.ofBytes?_eq_none hbad), Line.lend_given (ht.2 h) hc]
    cases p <;> rfl

end Sys2Proof.Machine
end

section
/-! PROOFS. The slots take the oldest waiting nodes. -/

namespace Sys2Proof.Machine

open Sys2Proof

/-! ## The slots of a list take nodes (R100) -/

section
variable {s : State}

/-- What a free slot does with the oldest waiting node (R100). -/
theorem State.slotTakes_of_free {j : SlotId} {n : NodeId} {rest : List NodeId} (hj : s.slots[j] = none)
    (hw : s.waitList = n :: rest) : s.slotTakes j =
      { s.modNode n (fun r => { r with state := .resyncing, attempts := 0 }) with
        waitList := rest, slots := s.slots.set j (some { node := n, phase := .queryOwed }) } := by
  unfold State.slotTakes
  rw [hj, hw]
  rfl

/-- The node table, the wait list and the slots after a free slot has taken a node. -/
theorem State.slotTakes_node {j : SlotId} {n : NodeId} {rest : List NodeId} (hj : s.slots[j] = none)
    (hw : s.waitList = n :: rest) (m : NodeId) : (s.slotTakes j).node m =
      if n = m then (s.node n).map fun r => { r with state := .resyncing, attempts := 0 } else s.node m := by
  rw [State.slotTakes_of_free hj hw]
  exact s.node_modNode n m _

theorem State.slotTakes_waitList {j : SlotId} {n : NodeId} {rest : List NodeId} (hj : s.slots[j] = none)
    (hw : s.waitList = n :: rest) : (s.slotTakes j).waitList = rest := by rw [State.slotTakes_of_free hj hw]

theorem State.slotTakes_slots_same {j : SlotId} {n : NodeId} {rest : List NodeId} (hj : s.slots[j] = none)
    (hw : s.waitList = n :: rest) : (s.slotTakes j).slots[j] = some { node := n, phase := .queryOwed } := by
  rw [State.slotTakes_of_free hj hw]
  exact Vector.getElem_set_self _

theorem State.slotTakes_of_taken {j : SlotId} (hj : s.slots[j] ≠ none) : s.slotTakes j = s := by
  rcases s.slotTakes_cases j with ⟨h, -⟩ | ⟨n, rest, hn, -, -⟩
  · exact h
  · exact absurd hn hj

theorem State.slotTakes_of_empty (j : SlotId) (hw : s.waitList = []) : s.slotTakes j = s := by
  rcases s.slotTakes_cases j with ⟨h, -⟩ | ⟨n, rest, -, hn, -⟩
  · exact h
  · exact absurd (hw.symm.trans hn) (List.cons_ne_nil n rest).symm

theorem State.slotTakes_slots_of_ne {j m : SlotId} (h : j ≠ m) : (s.slotTakes j).slots[m] = s.slots[m] := by
  rcases s.slotTakes_cases j with ⟨he, -⟩ | ⟨n, rest, -, -, he⟩
  · rw [he]
  · rw [he]
    exact Vector.getElem_set_ne j.isLt m.isLt fun hv => h (Fin.ext hv)

/-- Slots that are taken already can be left out. -/
theorem State.foldl_slotTakes_filter (l : List SlotId) (hl : l.Nodup) (s : State) :
    l.foldl State.slotTakes s = (l.filter fun j => (s.slots[j]).isNone).foldl State.slotTakes s := by
  induction l generalizing s with
  | nil => rfl
  | cons j l ih =>
    obtain ⟨hj, hl⟩ := List.nodup_cons.1 hl
    have hsame : (l.filter fun m => ((s.slotTakes j).slots[m]).isNone) = l.filter fun m => (s.slots[m]).isNone :=
      List.filter_congr fun m hm => by rw [State.slotTakes_slots_of_ne (ne_of_mem_of_not_mem hm hj).symm]
    rw [List.foldl_cons, ih hl, hsame]
    cases hs : s.slots[j] with
    | none => rw [List.filter_cons_of_pos (by simp [hs]), List.foldl_cons]
    | some e => rw [List.filter_cons_of_neg (by simp [hs]), State.slotTakes_of_taken (by simp [hs])]

/-- What free slots of a list have taken: the first of them the oldest node, and so on in order (R100). -/
structure State.Taken (s t : State) (l : List SlotId) : Prop where
  waitList : t.waitList = s.waitList.drop l.length
  slots : ∀ j : SlotId, t.slots[j] =
    if j ∈ l then (s.waitList[l.idxOf j]?).map fun n => { node := n, phase := .queryOwed } else s.slots[j]
  node : ∀ n : NodeId, t.node n =
    if n ∈ s.waitList.take l.length then (s.node n).map fun r => { r with state := .resyncing, attempts := 0 }
    else s.node n

/-- Without a waiting node free slots stay free. -/
theorem State.taken_of_empty {l : List SlotId} (hfree : ∀ j ∈ l, s.slots[j] = none) (hw : s.waitList = []) :
    s.Taken s l := by
  refine ⟨by rw [hw, List.drop_nil], fun j => ?_, fun n => by rw [hw, List.take_nil, if_neg List.not_mem_nil]⟩
  split
  · rename_i hj
    rw [hfree j hj, hw]
    rfl
  · rfl

/-- The first free slot takes the oldest node, the others the rest. -/
theorem State.Taken.cons {t : State} {j : SlotId} {l : List SlotId} {n : NodeId} {rest : List NodeId} (hj : j ∉ l)
    (hfree : s.slots[j] = none) (hw : s.waitList = n :: rest) (h : (s.slotTakes j).Taken t l) : s.Taken t (j :: l) := by
  obtain ⟨hwait, hslots, hnode⟩ := h
  rw [State.slotTakes_waitList hfree hw] at hwait
  simp only [State.slotTakes_waitList hfree hw, State.slotTakes_node hfree hw] at hslots hnode
  refine ⟨?_, fun m => ?_, fun m => ?_⟩
  · rw [hwait, hw]
    rfl
  · rw [hslots m, hw]
    by_cases hm : j = m
    · subst hm
      rw [if_neg hj, State.slotTakes_slots_same hfree hw]
      simp
    · have hmj : m ≠ j := fun he => hm he.symm
      rw [State.slotTakes_slots_of_ne hm, List.idxOf_cons_ne l hm]
      simp [hmj]
  · rw [hnode m, hw, List.length_cons, List.take_succ_cons]
    by_cases hn : n = m
    · subst hn
      cases s.node n <;> simp
    · simp [hn, Ne.symm hn]

theorem State.taken_foldl (l : List SlotId) (hl : l.Nodup) (s : State) (hfree : ∀ j ∈ l, s.slots[j] = none) :
    s.Taken (l.foldl State.slotTakes s) l := by
  induction l generalizing s with
  | nil => exact ⟨rfl, fun _ => rfl, fun _ => rfl⟩
  | cons j l ih =>
    obtain ⟨hj, hl⟩ := List.nodup_cons.1 hl
    cases hw : s.waitList with
    | nil =>
      have hkeep : (j :: l).foldl State.slotTakes s = s :=
        List.foldlRecOn (motive := fun t => t = s) _ _ rfl fun t ht m _ => by rw [ht, State.slotTakes_of_empty m hw]
      rw [hkeep]
      exact State.taken_of_empty hfree hw
    | cons n rest =>
      refine State.Taken.cons hj (hfree j List.mem_cons_self) hw (ih hl _ fun m hm => ?_)
      rw [State.slotTakes_slots_of_ne (ne_of_mem_of_not_mem hm hj).symm]
      exact hfree m (List.mem_cons_of_mem j hm)

end

/-- What the filling of the slots does (R100). -/
theorem State.taken_fillSlots {s : State} (hm : s.mode = .run) (hl : s.field.link = .up) :
    s.Taken s.fillSlots ((List.finRange 4).filter fun j => (s.slots[j]).isNone) := by
  unfold State.fillSlots
  rw [if_pos ⟨hm, hl⟩, State.foldl_slotTakes_filter _ (List.nodup_finRange 4)]
  exact State.taken_foldl _ ((List.nodup_finRange 4).filter _) s fun j hj =>
    Option.isNone_iff_eq_none.1 (List.mem_filter.1 hj).2

/-- Settles O29: outside RUN and UP nothing happens; otherwise the free slots take the oldest nodes. -/
theorem slotsTakeOldest : Obligations.SlotsTakeOldest := by
  refine ⟨fun s h => if_neg h, fun s hm hl _ => ?_⟩
  intro free t
  obtain ⟨hwait, hslots, hnode⟩ := State.taken_fillSlots hm hl
  have hfree (j : SlotId) : j ∈ free ↔ s.slots[j] = none := by
    rw [List.mem_filter, Option.isNone_iff_eq_none, and_iff_right (List.mem_finRange j)]
  refine ⟨hwait, fun j => (hslots j).trans (if_congr (hfree j) rfl rfl), hnode, ?_⟩
  apply State.eq_of_fields <;> simp [t]

end Sys2Proof.Machine
end

section
/-! PROOFS. The requests of the node table and READ-PART. -/

namespace Sys2Proof.Machine

open Sys2Proof

/-! ## PUT-NODE (R109) -/

theorem putNodeArgs_byteOf (n : NodeId) (present : Bool) (i : SourceIx) :
    putNodeArgs [byteOf n.val, flagByte present, byteOf i.val] = some (n, if present = true then some i else none) := by
  simp [putNodeArgs, below_byteOf (by omega : 64 ≤ 256), indexOf_byteOf]

theorem putNodeArgs_none {n p : Byte} (i : Byte) (h : 63 < n.toNat ∨ 1 < p.toNat) : putNodeArgs [n, p, i] = none := by
  unfold putNodeArgs
  dsimp only
  rcases h with h | h
  · rw [below_none n h]
  · rw [flagOf_none p h]
    cases below 64 n <;> rfl

section
variable {s : State} {n : NodeId} {r : Node} {args : List Byte}

theorem State.enqueue_eq (h : s.node n = some r) : s.enqueue n = { s with
    nodes := s.nodes.set n (some { r with state := .waiting })
    waitList := s.waitList ++ [n] } := by
  simp only [State.enqueue, State.modNode, State.setNode, h, Option.map_some]

/-- A created node stands WAITING at the tail of the wait list (R109). -/
theorem State.enqueue_setNode (s : State) (n : NodeId) (r : Node) : (s.setNode n (some r)).enqueue n = { s with
    nodes := s.nodes.set n (some { r with state := .waiting })
    waitList := s.waitList ++ [n] } := by
  rw [State.enqueue_eq (State.node_setNode_same s n (some r))]
  simp only [State.setNode, Vector.set_set]

theorem putNodeAct_of_present {o : Option SourceIx} (k : AgentId) (hp : putNodeArgs args = some (n, o)) (hr : s.node n = some r) :
    putNodeAct k args s = (s.setNode n (some { r with lossSource := o }), { status := .ok, report := [0x01#8] }) := by
  unfold putNodeAct
  rw [hp]
  dsimp only
  rw [hr]
  rfl

theorem putNodeAct_of_absent {o : Option SourceIx} (k : AgentId) (hp : putNodeArgs args = some (n, o)) (hr : s.node n = none) :
    putNodeAct k args s = (State.fillSlots { s with
        nodes := s.nodes.set n (some {
          lossSource := o, state := .waiting, expected := 0#8, attempts := 0, wasLost := false, gaps := 0#16,
          unmapped := 0#16 })
        waitList := s.waitList ++ [n] }, { status := .ok, report := [0x00#8] }) := by
  unfold putNodeAct
  rw [hp]
  dsimp only
  rw [hr]
  dsimp only
  rw [State.enqueue_setNode]
  rfl

theorem putNodeAct_of_none (k : AgentId) (hp : putNodeArgs args = none) :
    putNodeAct k args s = (s, { status := .badArgument }) := by
  unfold putNodeAct
  rw [hp]
  rfl

/-! ## DROP-NODE (R110) -/

theorem fieldNodeArg_byteOf (h : n ≠ 0) : fieldNodeArg [byteOf n.val] = some n := by
  simp [fieldNodeArg, below_byteOf (by omega : 64 ≤ 256), h]

theorem fieldNodeArg_none {b : Byte} (h : b.toNat = 0 ∨ 63 < b.toNat) : fieldNodeArg [b] = none := by
  unfold fieldNodeArg
  rcases h with h | h
  · obtain rfl : b = 0#8 := BitVec.eq_of_toNat_eq h
    rfl
  · dsimp only
    rw [below_none b h]
    rfl

theorem dropNodeAct_of_none (k : AgentId) (hp : fieldNodeArg args = none) :
    dropNodeAct k args s = (s, { status := .badArgument }) := by
  unfold dropNodeAct
  rw [hp]
  rfl

theorem dropNodeAct_of_absent (k : AgentId) (hp : fieldNodeArg args = some n) (hr : s.node n = none) :
    dropNodeAct k args s = (s, { status := .noEntry }) := by
  unfold dropNodeAct
  rw [hp]
  dsimp only
  rw [hr]
  rfl

theorem dropNodeAct_of_keyed (k : AgentId) (hp : fieldNodeArg args = some n) (hr : s.node n = some r)
    (hk : s.keyedCount n ≠ 0) : dropNodeAct k args s = (s, { status := .nodeInUse }) := by
  unfold dropNodeAct
  rw [hp]
  dsimp only
  rw [hr]
  exact if_pos hk

theorem dropNodeAct_of_unkeyed (k : AgentId) (hp : fieldNodeArg args = some n) (hr : s.node n = some r)
    (hk : s.keyedCount n = 0) : dropNodeAct k args s =
      (((s.releaseNode n).setNode n none).fillSlots, { status := .ok, report := [r.state.byte] }) := by
  unfold dropNodeAct
  rw [hp]
  dsimp only
  rw [hr]
  exact if_neg (not_not.2 hk)

end

/-- Settles O30: the arguments, then the presence of the node, then the sources keyed to it. -/
theorem putAndDropNode : Obligations.PutAndDropNode := by
  refine ⟨⟨fun s f k n present i h hm => ?put, fun s f k n p i h hm hbad => ?putBad⟩, fun s f k b h hm hbad => ?dropBad,
    fun s f k n h hm hn => ?drop⟩
  case put =>
    intro loss
    have he := exec_managed (c := .putNode) h hm (by simp [ReqCode.wellFormed, ReqCode.len, ReqCode.clearOption]) rfl
    dsimp only [ReqCode.row, ReqCode.own] at he
    have hargs := putNodeArgs_byteOf n present i
    exact ⟨fun r hr => by rw [he, putNodeAct_of_present k hargs hr]; rfl,
      fun hr => by rw [he, putNodeAct_of_absent k hargs hr]⟩
  case putBad =>
    have he := exec_managed (c := .putNode) h hm rfl rfl
    dsimp only [ReqCode.row, ReqCode.own] at he
    rw [he, putNodeAct_of_none k (putNodeArgs_none i hbad)]
  case dropBad =>
    have he := exec_managed (c := .dropNode) h hm rfl rfl
    dsimp only [ReqCode.row, ReqCode.own] at he
    rw [he, dropNodeAct_of_none k (fieldNodeArg_none hbad)]
  case drop =>
    have he := exec_managed (c := .dropNode) h hm rfl rfl
    dsimp only [ReqCode.row, ReqCode.own] at he
    have harg := fieldNodeArg_byteOf hn
    refine ⟨fun hr => by rw [he, dropNodeAct_of_absent k harg hr], fun r hr => ⟨fun ⟨i, a, hi, ha⟩ => ?keyed, fun hno => ?unkeyed⟩⟩
    case keyed =>
      rw [he, dropNodeAct_of_keyed k harg hr fun hk => (s.keyedCount_eq_zero n).1 hk i a hi ha]
    case unkeyed =>
      rw [he, dropNodeAct_of_unkeyed k harg hr ((s.keyedCount_eq_zero n).2 hno)]
      rfl

/-! ## READ-NODE and READ-PART (R111, R137, R169) -/

theorem readNodeArgs_byteOf (n : NodeId) (clear : Bool) : readNodeArgs [byteOf n.val, flagByte clear] = some (n, clear) := by
  cases clear <;> simp [readNodeArgs, below_byteOf (by omega : 64 ≤ 256), flagByte]

theorem readNodeArgs_none {n : Byte} (o : Byte) (h : 63 < n.toNat) : readNodeArgs [n, o] = none := by
  unfold readNodeArgs
  dsimp only
  rw [below_none n h]
  rfl

/-- The role is needed for the clear option alone (R131). -/
theorem role_of_clear {P : Prop} {clear : Bool} (h : clear = true → P)
    (hd : decide (some (flagByte clear) = some 1#8) = true) : P := by
  cases clear with
  | true => exact h rfl
  | false => exact absurd hd (by decide)

section
variable {s : State} {n : NodeId} {r : Node} {args : List Byte}

theorem readNodeAct_of_none (k : AgentId) (hp : readNodeArgs args = none) :
    readNodeAct k args s = (s, { status := .badArgument }) := by
  unfold readNodeAct
  rw [hp]
  rfl

theorem readNodeAct_of_absent {clear : Bool} (k : AgentId) (hp : readNodeArgs args = some (n, clear)) (hr : s.node n = none) :
    readNodeAct k args s = (s, { status := .noEntry }) := by
  unfold readNodeAct
  rw [hp]
  dsimp only
  rw [hr]
  rfl

theorem readNodeAct_of_present {clear : Bool} (k : AgentId) (hp : readNodeArgs args = some (n, clear))
    (hr : s.node n = some r) : readNodeAct k args s =
      (if clear = true then { s with nodes := s.nodes.set n (some { r with gaps := 0#16, unmapped := 0#16 }) } else s,
        { status := .ok, report := s.nodeReport n r }) := by
  unfold readNodeAct
  rw [hp]
  dsimp only
  rw [hr]
  rfl

/-- The place of a WAITING node on the wait list, 1 for the oldest (R99, R169). -/
theorem State.waitPosition_eq (hw : s.WaitLaw) (hr : s.node n = some r) :
    s.waitPosition n r = if r.state = .waiting then s.waitList.idxOf n + 1 else 0 := by
  obtain ⟨-, hwait, -, -⟩ := hw
  unfold State.waitPosition
  by_cases hs : r.state = .waiting
  · have hmem : n ∈ s.waitList := (hwait n).2 (by rw [hr, Option.map_some, hs])
    have hfind : s.waitList.findIdx? (fun m => decide (m = n)) = some (s.waitList.idxOf n) :=
      List.findIdx?_eq_some_of_exists ⟨n, hmem, decide_eq_true rfl⟩
    rw [if_pos hs, if_pos hs, hfind]
  · rw [if_neg hs, if_neg hs]

theorem State.mem_slots {e : Slot} : e ∈ s.slots.toList.filterMap id ↔ ∃ j : SlotId, s.slots[j] = some e := by
  simp only [List.mem_filterMap, id_eq, exists_eq_right, Vector.mem_toList_iff, Vector.mem_iff_getElem]
  exact ⟨fun ⟨i, hi, he⟩ => ⟨⟨i, hi⟩, he⟩, fun ⟨j, he⟩ => ⟨j.val, j.isLt, he⟩⟩

/-- The slot found for a node is one that holds it. -/
theorem State.slotOf_some {e : Slot} (h : s.slotOf n = some e) : ∃ j : SlotId, s.slots[j] = some e ∧ e.node = n := by
  obtain ⟨j, hj⟩ := State.mem_slots.1 (List.mem_of_find?_eq_some h)
  have hn := List.find?_some (p := fun e : Slot => decide (e.node = n)) h
  exact ⟨j, hj, of_decide_eq_true hn⟩

theorem State.slotOf_isSome {j : SlotId} {e : Slot} (hj : s.slots[j] = some e) (hn : e.node = n) :
    (s.slotOf n).isSome = true :=
  List.find?_isSome.2 ⟨e, State.mem_slots.2 ⟨j, hj⟩, decide_eq_true hn⟩

theorem State.phaseByte_of_not_resyncing (h : r.state ≠ .resyncing) : s.phaseByte n r = 0x00#8 := if_neg h

/-- The phase reported for a RESYNCING node is that of the slot that holds it (R111). -/
theorem State.phaseByte_of_resyncing (hw : s.WaitLaw) (hr : s.node n = some r) (h : r.state = .resyncing) :
    ∃ (j : SlotId) (e : Slot), s.slots[j] = some e ∧ e.node = n ∧ s.phaseByte n r = e.phase.byte := by
  obtain ⟨-, -, hslots, -⟩ := hw
  obtain ⟨m, g, hm, hg⟩ := (hslots n).2 (by rw [hr, Option.map_some, h])
  obtain ⟨e, he⟩ := Option.isSome_iff_exists.1 (State.slotOf_isSome hm hg)
  obtain ⟨j, hj, hn⟩ := State.slotOf_some he
  refine ⟨j, e, hj, hn, ?_⟩
  unfold State.phaseByte
  rw [if_pos h, he]

end

theorem optByte_role (o : Option AgentId) : optByte o = match o with
    | some j => byteOf j.val
    | none => 0xFF#8 := by
  cases o <;> rfl

/-- The report of READ-PART, field by field (R137, R169). -/
theorem State.partReport_eq (s : State) : s.partReport =
    [s.mode.byte, flagByte s.retained, optByte s.role, 0x01#8, 0xF0#8 + s.straps.setWidth 8, byteOf s.resyncWait,
      byteOf s.resyncTries] ++
    halfBytes s.counters.trunkChecks ++ halfBytes s.counters.fieldChecks ++ halfBytes s.counters.foreign ++
    halfBytes s.counters.stray ++ halfBytes s.counters.misdirected ++ halfBytes s.counters.droppedToTrunk ++
    halfBytes s.counters.flushed := by
  simp only [State.partReport, Counters.bytes, List.append_assoc]
  rfl

theorem readPartAct_eq (s : State) (k : AgentId) (clear : Bool) : readPartAct k [flagByte clear] s =
    (if clear = true then { s with counters := {
        trunkChecks := 0#16, fieldChecks := 0#16, foreign := 0#16, stray := 0#16, misdirected := 0#16,
        droppedToTrunk := 0#16, flushed := 0#16 } } else s, { status := .ok, report := s.partReport }) := by
  cases clear <;> rfl

/-- Settles O31: the reports field by field; the clear option decides the state. -/
theorem readNodeAndPart : Obligations.ReadNodeAndPart := by
  refine ⟨?present, fun s f k n clear h hrole hr => ?absent, fun s f k n clear h hrole hn => ?bad, ?part⟩
  case present =>
    intro s f k n clear r h hrole hw hr keyed t
    have he := exec_own (c := .readNode) h
      (by simp [ReqCode.wellFormed, ReqCode.len, ReqCode.clearOption]) nofun (role_of_clear hrole) nofun
    dsimp only [ReqCode.row, ReqCode.own] at he
    refine ⟨s.phaseByte n r, State.phaseByte_of_not_resyncing, State.phaseByte_of_resyncing hw hr, ?_⟩
    rw [he, readNodeAct_of_present k (readNodeArgs_byteOf n clear) hr, State.nodeReport, State.waitPosition_eq hw hr,
      s.keyedCount_eq n]
    rfl
  case absent =>
    have he := exec_own (c := .readNode) h
      (by simp [ReqCode.wellFormed, ReqCode.len, ReqCode.clearOption]) nofun (role_of_clear hrole) nofun
    dsimp only [ReqCode.row, ReqCode.own] at he
    rw [he, readNodeAct_of_absent k (readNodeArgs_byteOf n clear) hr]
  case bad =>
    have he := exec_own (c := .readNode) h
      (by simp [ReqCode.wellFormed, ReqCode.len, ReqCode.clearOption]) nofun (role_of_clear hrole) nofun
    dsimp only [ReqCode.row, ReqCode.own] at he
    rw [he, readNodeAct_of_none k (readNodeArgs_none _ hn)]
  case part =>
    intro s f k clear h hrole c t
    have he := exec_own (c := .readPart) h
      (by simp [ReqCode.wellFormed, ReqCode.len, ReqCode.clearOption]) nofun (role_of_clear hrole) nofun
    dsimp only [ReqCode.row, ReqCode.own] at he
    rw [he, readPartAct_eq, State.partReport_eq, optByte_role] <;> rfl

end Sys2Proof.Machine
end

section
/-! PROOFS. The reports of the field nodes: EVT and STATE. -/

namespace Sys2Proof.Machine

open Sys2Proof

/-! ## The source keyed to a signal (R2, R95, R105) -/

section
variable {s : State} {n : NodeId} {c : Channel} {i : SourceIx} {a : Source}

/-- With unique keys the source keyed to a signal is the one found for it. -/
theorem State.keyed_eq_some (hk : s.KeyLaw) (hi : s.source i = some a) (hn : a.config.node = n)
    (hc : a.config.channel = c) : s.keyed n c = some i := by
  obtain ⟨hunique, -⟩ := hk
  cases hf : s.keyed n c with
  | none => exact absurd ⟨hn, hc⟩ ((s.keyed_none n c).1 hf i a hi)
  | some j =>
    obtain ⟨b, hj, hbn, hbc⟩ := s.keyed_some n c j hf
    rw [hunique j b hj i a hi (hbn.trans hn.symm) (hbc.trans hc.symm)]

theorem State.nodeTransition_of_keyed (h : s.keyed n c = some i) (t : Transition) :
    s.nodeTransition n c t = s.changeSource i (Source.transition t) := by
  unfold State.nodeTransition
  rw [h]

theorem State.nodeTransition_of_unkeyed (h : s.keyed n c = none) (t : Transition) {r : Node} (hr : s.node n = some r) :
    s.nodeTransition n c t = { s with nodes := s.nodes.set n (some { r with unmapped := satSucc r.unmapped }) } := by
  unfold State.nodeTransition
  rw [h]
  simp only [State.modNode, State.setNode, hr, Option.map_some]

theorem State.nodeLevel_of_keyed (h : s.keyed n c = some i) (level : Channel → Bool) :
    s.nodeLevel n level c = s.changeSource i (Source.takeLevel (level c)) := by
  unfold State.nodeLevel
  rw [h]

theorem State.nodeLevel_of_unkeyed (h : s.keyed n c = none) (level : Channel → Bool) : s.nodeLevel n level c = s := by
  unfold State.nodeLevel
  rw [h]

end

/-! ## An EVT at the node table (R94 to R98) -/

/-- What every EVT does: its transition, and the sequence number expected next. -/
def State.evtApplied (s : State) (n : NodeId) (c : Channel) (t : Transition) (q : Byte) : State :=
  (s.nodeTransition n c t).modNode n fun x => { x with expected := q + 1#8 }

/-- A gap is counted (R96). -/
def State.gapCounted (s : State) (n : NodeId) : State := s.modNode n fun x => { x with gaps := satSucc x.gaps }

section
variable {s : State} {n : NodeId} {r : Node} {c : Channel} {t : Transition} {q : Byte}

theorem Node.gapIn_iff (r : Node) (q : Byte) : r.gapIn q = true ↔ r.state ≠ .lost ∧ q ≠ r.expected := by
  simp [Node.gapIn]

/-- A report in order from a node that is not LOST (R95). -/
theorem State.takeEvt_of_expected (hs : r.state ≠ .lost) (hq : q = r.expected) :
    s.takeEvt n r c t q = s.evtApplied n c t q := by
  have hgap : ¬ r.gapIn q = true := fun h => ((r.gapIn_iff q).1 h).2 hq
  unfold State.takeEvt
  rw [if_neg hgap]
  split
  · exact if_pos hq
  · rfl
  · rfl
  · rename_i h
    exact absurd h hs

/-- A gap of a SYNCED node: it waits, its sources are uncertain, and the GAP notice is made (R96). -/
theorem State.takeEvt_of_gap (hs : r.state = .synced) (hq : q ≠ r.expected) : s.takeEvt n r c t q =
    (((((s.gapCounted n).evtApplied n c t q).enqueue n).markUncertain n true).notifyFlagged (.gap n)).fillSlots := by
  have hgap : r.gapIn q = true := (r.gapIn_iff q).2 ⟨by rw [hs]; nofun, hq⟩
  unfold State.takeEvt
  rw [if_pos hgap, hs]
  exact if_neg hq

/-- A gap of a node that is resynchronised already is counted and no more (R97). -/
theorem State.takeEvt_of_queued (hs : r.state = .waiting ∨ r.state = .resyncing) (hq : q ≠ r.expected) :
    s.takeEvt n r c t q = (s.gapCounted n).evtApplied n c t q := by
  have hgap : r.gapIn q = true := (r.gapIn_iff q).2 ⟨by rcases hs with h | h <;> rw [h] <;> nofun, hq⟩
  unfold State.takeEvt
  rw [if_pos hgap]
  rcases hs with h | h <;> rw [h] <;> rfl

/-- A report of a LOST node: it waits again (R98). -/
theorem State.takeEvt_of_lost (hs : r.state = .lost) :
    s.takeEvt n r c t q = ((s.evtApplied n c t q).enqueue n).fillSlots := by
  have hgap : ¬ r.gapIn q = true := fun h => ((r.gapIn_iff q).1 h).1 hs
  unfold State.takeEvt
  rw [if_neg hgap, hs]
  rfl

theorem evtOf_byteOf (c : Channel) {b : Byte} (q : Byte) (h : transitionOf b = some t) :
    evtOf [byteOf c.val, b, q] = some (c, t, q) := by
  simp [evtOf, below_byteOf (by omega : 16 ≤ 256), h]

variable {f : Frame}

/-- A well-formed EVT of a present field node reaches the node table (R94). -/
theorem exec_evt_of_report (h : s.fieldHead Config.kindEvt = some f) (hp : evtOf f.payload = some (c, t, q))
    (hn : s.fieldNode f.orig = some n) (hr : s.node n = some r) :
    exec .evt s = .next (s.finishField.takeEvt n r c t q) := by
  simp only [exec, execEvt, h, hp, hn, hr]

/-- A well-formed STATE of a present field node reaches the node table (R106). -/
theorem exec_state_of_report {levels : BitVec 16} (h : s.fieldHead Config.kindState = some f)
    (hp : stateOf f.payload = some (levels, q)) (hn : s.fieldNode f.orig = some n) (hr : s.node n = some r) :
    exec .state s = .next (s.finishField.takeState n r levels q) := by
  simp only [exec, execState, h, hp, hn, hr]

end

/-- Settles O32: the source keyed to the channel, and Table 5-2 by the state of the node and the sequence number. -/
theorem eventReports : Obligations.EventReports := by
  refine ⟨fun s n c t hk => ⟨fun i a hi hn hc => State.nodeTransition_of_keyed (State.keyed_eq_some hk hi hn hc) t,
    fun hno r hr => State.nodeTransition_of_unkeyed ((s.keyed_none n c).2 hno) t hr⟩, ?_⟩
  intro s f n r c t q h hkind hn ho hr hp taken node inOrder gapped queued uncertain
  have hhead := State.fieldHead_of_intakes h
  rw [hkind] at hhead
  have hevt : evtOf f.payload = some (c, t, q) := by
    rw [hp]
    exact evtOf_byteOf c q (by cases t <;> rfl)
  have he := exec_evt_of_report hhead hevt (by rw [ho, State.fieldNode_byteOf hn hr]) hr
  have hgap : (taken.gapCounted n).evtApplied n c t q = gapped := rfl
  have huncertain (u : State) : u.markUncertain n true = uncertain u := u.markUncertain_eq n true
  refine ⟨fun hs hq => ?_, fun hs hq => ?_, fun hs hq => ?_, fun hs hq => ?_, fun hs => ?_⟩
  · rw [he, State.takeEvt_of_expected (by rw [hs]; nofun) hq]
    rfl
  · rw [he, State.takeEvt_of_gap hs hq, huncertain]
    rfl
  · rw [he, State.takeEvt_of_expected (by rcases hs with hs | hs <;> rw [hs] <;> nofun) hq]
    rfl
  · rw [he, State.takeEvt_of_queued hs hq]
    rfl
  · rw [he, State.takeEvt_of_lost hs]
    rfl

/-! ## A STATE at the node table (R105, R106) -/

/-- A node's report of its levels taken into its record and its sources' flags (R105). -/
def State.stateTaken (s : State) (n : NodeId) (q : Byte) : State :=
  { s with
    sources := Vector.ofFn fun i => (s.source i).map fun a =>
      if a.config.node = n then { a with uncertain := false } else a
    nodes := s.nodes.set n ((s.node n).map fun x => { x with expected := q, state := .synced, wasLost := false }) }

theorem State.stateTaken_eq (s : State) (n : NodeId) (q : Byte) : s.stateTaken n q =
    (s.markUncertain n false).modNode n fun x => { x with expected := q, state := .synced, wasLost := false } := by
  rw [State.markUncertain_eq]
  dsimp only [State.stateTaken, State.modNode, State.setNode, State.node]

theorem State.takeState_eq (s : State) (n : NodeId) (r : Node) (levels : BitVec 16) (q : Byte) :
    s.takeState n r levels q =
      if r.wasLost = true then
        ((((s.nodeLevels n fun c => levels.getLsbD c.val).stateTaken n q).releaseNode n).notifyFlagged (.regained n)).fillSlots
      else (((s.nodeLevels n fun c => levels.getLsbD c.val).stateTaken n q).releaseNode n).fillSlots := by
  rw [State.stateTaken_eq]
  unfold State.takeState
  dsimp only
  rw [apply_ite State.fillSlots]

/-- Settles O33: the levels one channel at a time, and what a STATE releases. -/
theorem stateReports : Obligations.StateReports := by
  refine ⟨fun s n level => rfl, fun s n level c hk =>
    ⟨fun i a hi hn hc => State.nodeLevel_of_keyed (State.keyed_eq_some hk hi hn hc) level,
      fun hno => State.nodeLevel_of_unkeyed ((s.keyed_none n c).2 hno) level⟩, ?_⟩
  intro s f n r hi lo q h hkind hn ho hr hp level taken levelled synced released
  have hhead := State.fieldHead_of_intakes h
  rw [hkind] at hhead
  have hlevel : (fun c : Channel => (halfOf hi lo).getLsbD c.val) = level := funext fun c => halfOf_getLsbD hi lo c
  have he := exec_state_of_report (levels := halfOf hi lo) (q := q) hhead (by rw [hp]; rfl)
    (by rw [ho, State.fieldNode_byteOf hn hr]) hr
  rw [he, State.takeState_eq, hlevel]
  rfl

end Sys2Proof.Machine
end
